-- ==== Sys2Proof/Word.lean ====
section
/-! DEFINITION. The byte, and the distance count: the two things the PE36 manual treats as bits that wrap. -/

namespace Sys2Proof

/-- One payload byte of a frame (spec/00_scope.md, "Byte order"). -/
abbrev Byte := BitVec 8

/-- A distance count or stamp, 0..65535, which wraps from 65535 to 0 (spec/00_scope.md, "Modular distance"). -/
abbrev Dist := BitVec 16

/-- A 4-bit alive counter (spec/00_scope.md, "Alive counter"). -/
abbrev Alive := BitVec 4

/-- A frame identifier. A base identifier is one below 2048 (spec/00_scope.md, "Connections"). -/
abbrev Ident := BitVec 29

end Sys2Proof
end

