-- ==== Sys2Proof/Syntax.lean ====
section
/-! DEFINITION. The commands of the PE36: one constructor of `Instr` per row of spec/opcode_table.json, with the operands
the row's rule gives the operation or event. -/

namespace Sys2Proof

/-- The two CAN FD ports (spec/00_scope.md, "Connections"). -/
inductive PortId where
  | cab | chassis
  deriving DecidableEq, Repr

/-- The kind of a frame identifier (spec/00_scope.md, "Connections"). -/
inductive IdKind where
  | base | extended
  deriving DecidableEq, Repr

/-- A frame as the PE36 sees it: identifier kind, identifier, and a payload whose length is the data length
(spec/00_scope.md, "Connections"). -/
structure Frame where
  kind : IdKind
  ident : Ident
  payload : List Byte
  deriving DecidableEq, Repr

/-- The two outcomes of a transmission (R167). -/
inductive TxOutcome where
  | sent | abandoned
  deriving DecidableEq, Repr

/-- The four passenger doors (spec/00_scope.md, "The vehicle and the four jobs"). -/
inductive Door where
  | d1 | d2 | d3 | d4
  deriving DecidableEq, Repr

/-- The six air-suspension corners (spec/00_scope.md, "The vehicle and the four jobs"). -/
inductive Corner where
  | fl | fr | ml | mr | rl | rr
  deriving DecidableEq, Repr

/-- What identifies an expectation: its kind and unit together (R131). -/
inductive ExpKey where
  | doorLock (d : Door) | stopApply | stopRelease
  deriving DecidableEq, Repr

/-- A command to the PE36: an event that reaches it or a service request its responder takes. Each constructor is one row of
spec/opcode_table.json. A service request carries its tag (R189) and its parameters as R207 lays them out; its request code
and its length are those of its row. -/
inductive Instr where
  /-- COLD_RESET (R206). -/
  | coldReset
  /-- FRAME_RECEPTION (R156): the frame received on the port. -/
  | frameReception (p : PortId) (f : Frame)
  /-- FRAME_CLASSIFICATION (R160): the port whose receive queue the router takes the head frame of. -/
  | frameClassification (p : PortId)
  /-- TRANSMISSION_END (R170). -/
  | transmissionEnd (p : PortId) (o : TxOutcome)
  /-- RECOVERY_TIMER_EXPIRY (R172). -/
  | recoveryTimerExpiry (p : PortId)
  /-- SLOT_ARRIVAL (R179): the 1 ms cycle timer expires. -/
  | slotArrival
  /-- FRESHNESS_TIMER_EXPIRY (R16): the channel whose timer expires. -/
  | freshnessTimerExpiry (c : Fin 48)
  /-- STALE_TIMER_EXPIRY (R17): the channel whose timer expires. -/
  | staleTimerExpiry (c : Fin 48)
  /-- WAKE_TIMER_EXPIRY (R83). -/
  | wakeTimerExpiry (k : Corner)
  /-- KNEEL_TIMER_EXPIRY (R97). -/
  | kneelTimerExpiry
  /-- RAISE_TIMER_EXPIRY (R98). -/
  | raiseTimerExpiry
  /-- PREP_TIMER_EXPIRY (R114). -/
  | prepTimerExpiry (d : Door)
  /-- DWELL_TIMER_EXPIRY (R117). -/
  | dwellTimerExpiry (d : Door)
  /-- WARN_TIMER_EXPIRY (R118). -/
  | warnTimerExpiry (d : Door)
  /-- DEADLINE_EXPIRY (R137): the expectation whose deadline runs out. -/
  | deadlineExpiry (k : ExpKey)
  /-- RELEASE_GAP_EXPIRY (R146). -/
  | releaseGapExpiry
  /-- IDENTIFY (R200). -/
  | identify (tag : Byte)
  /-- MODE_REQUEST (R193): the requested mode's byte. -/
  | modeRequest (tag : Byte) (mode : Byte)
  /-- PARAM_READ (R199): the parameter number. -/
  | paramRead (tag : Byte) (number : BitVec 16)
  /-- PARAM_WRITE (R199): the parameter number and the four bytes of the value. -/
  | paramWrite (tag : Byte) (number : BitVec 16) (value : BitVec 32)
  /-- TABLE_OPEN (R196): the table number and the starting index. -/
  | tableOpen (tag : Byte) (table : Byte) (index : BitVec 16)
  /-- TABLE_WRITE (R197): the sixteen bytes of the record. -/
  | tableWrite (tag : Byte) (record : Vector Byte 16)
  /-- TABLE_READ (R197). -/
  | tableRead (tag : Byte)
  /-- TABLE_CLOSE (R198). -/
  | tableClose (tag : Byte)
  /-- PROFILE_SELECT (R48): the profile number and the step. -/
  | profileSelect (tag : Byte) (profile step : Byte)
  /-- STATE_READ (R200): the unit and the page. -/
  | stateRead (tag : Byte) (unit page : Byte)
  /-- SNAPSHOT (R201). -/
  | snapshot (tag : Byte)
  /-- COUNTER_READ (R201): the counter group and the first index. -/
  | counterRead (tag : Byte) (group : Byte) (first : BitVec 16)
  /-- COUNTER_CLEAR (R202): the counter group. -/
  | counterClear (tag : Byte) (group : Byte)
  /-- FAULT_CLEAR_RSE (R52). -/
  | faultClearRse (tag : Byte)
  /-- FAULT_CLEAR_RHC (R100). -/
  | faultClearRhc (tag : Byte)
  /-- INHIBIT_SET (R151). -/
  | inhibitSet (tag : Byte)
  /-- INHIBIT_CLEAR (R151). -/
  | inhibitClear (tag : Byte)
  /-- RESTART (R204). -/
  | restart (tag : Byte)
  /-- UNIT_RESET_RSE (R58). -/
  | unitResetRse (tag : Byte)
  /-- UNIT_RESET_RHC (R105). -/
  | unitResetRhc (tag : Byte)
  /-- UNIT_RESET_SGM (R25). -/
  | unitResetSgm (tag : Byte)
  /-- UNIT_RESET_TXS (R188, R175). -/
  | unitResetTxs (tag : Byte)
  deriving DecidableEq, Repr

end Sys2Proof
end

