-- ==== Sys2Proof/Decode.lean ====
section
/-! DEFINITION. The command a word spells by the bits of spec/opcode_table.json. The table gives bits to none of its 38
rows: a command of the PE36 is an event or a service frame, not a word, so no word spells one. -/

namespace Sys2Proof

/-- The command that the word `w` of `nbits` bits spells. No row of the table gives bits ("n_rows_with_fixed": 0 in
spec/98_reader.md), so every word is refused. -/
def decodeTableWord (_nbits _w : Nat) : Option Instr := none

end Sys2Proof
end

