-- ==== Sys2Proof/Config.lean ====
section
/-! DEFINITION. The numbers the manual fixes once for the part: sizes of queues and tables, and the two constants that are
not parameters. The PE36 leaves no number to an implementation, so Config holds no free value. -/

namespace Sys2Proof.Config

/-- Frames a receive queue or a forward queue holds (R156, R164). -/
def queueDepth : Nat := 32

/-- Frames the chassis port's urgent queue holds (R168). -/
def urgentDepth : Nat := 8

/-- Samples the trace queue holds (R26). -/
def traceDepth : Nat := 48

/-- Entries the expectation queue holds (R131). -/
def expectationDepth : Nat := 4

/-- The occupancy from which the expectation queue is almost full (R131). -/
def almostFullFrom : Nat := 3

/-- Consecutive abandoned transmissions that take a port DOWN (R170). -/
def downAfter : Nat := 8

/-- port_recover_ms, "200 ms and is not a parameter" (R171). -/
def portRecoverMs : Nat := 200

/-- The hold value of a 16-bit counter (R24, R56, R79, ...). -/
def hold16 : Nat := 65535

/-- The hold value of a 32-bit counter (R153, R165). -/
def hold32 : Nat := 4294967295

/-- The identity code that IDENTIFY answers (R207). -/
def identityCode : Nat := 0x3624

/-- The largest payload of a frame, in bytes (spec/00_scope.md, "Connections"). -/
def maxPayload : Nat := 64

/-- The number of base identifiers: a base identifier has 11 bits (spec/00_scope.md, "Connections"). -/
def baseIdents : Nat := 2048

end Sys2Proof.Config
end

