-- ==== Sys2Proof/Machine/ParamTable.lean ====
section
/-! DEFINITION. The parameters of the part: their numbers (R210), cold-reset values and ranges (R18, R54, R77, R101, R127, R152,
R159, R191). -/

namespace Sys2Proof.Machine

/-- The parameters, in the order of their numbers (R210). -/
inductive ParamId where
  /-- stale_mult -/
  | staleMult
  /-- S, the sample spacing -/
  | spacing
  /-- L, the lag -/
  | lag
  /-- odo_max_step -/
  | odoMaxStep
  /-- mech -/
  | mech
  /-- slew -/
  | slew
  /-- centre_band -/
  | centreBand
  /-- track_tol -/
  | trackTol
  /-- track_count -/
  | trackCount
  /-- jk_angle -/
  | jkAngle
  /-- jk_speed -/
  | jkSpeed
  /-- p_max -/
  | pMax
  /-- stop_p -/
  | stopP
  /-- stop_tol -/
  | stopTol
  /-- release_tol -/
  | releaseTol
  /-- stop_speed -/
  | stopSpeed
  /-- emg_speed -/
  | emgSpeed
  /-- static_w_F -/
  | staticWF
  /-- static_w_M -/
  | staticWM
  /-- static_w_R -/
  | staticWR
  /-- jk_bias -/
  | jkBias
  /-- apply_timeout -/
  | applyTimeout
  /-- release_timeout -/
  | releaseTimeout
  /-- deadband -/
  | deadband
  /-- wake_band -/
  | wakeBand
  /-- quiet_count -/
  | quietCount
  /-- wake_ms -/
  | wakeMs
  /-- pulse_gain -/
  | pulseGain
  /-- pulse_min -/
  | pulseMin
  /-- pulse_max -/
  | pulseMax
  /-- raise_cost -/
  | raiseCost
  /-- air_low -/
  | airLow
  /-- air_high -/
  | airHigh
  /-- kneel_reserve -/
  | kneelReserve
  /-- high_offset -/
  | highOffset
  /-- high_speed -/
  | highSpeed
  /-- kneel_speed -/
  | kneelSpeed
  /-- kneel_timeout -/
  | kneelTimeout
  /-- raise_timeout -/
  | raiseTimeout
  /-- release_speed -/
  | releaseSpeed
  /-- prep_timeout -/
  | prepTimeout
  /-- warn_ms -/
  | warnMs
  /-- lock_timeout -/
  | lockTimeout
  /-- obstruct_limit -/
  | obstructLimit
  /-- release_gap -/
  | releaseGap
  /-- torque_cap -/
  | torqueCap
  /-- enable mask -/
  | enableMask
  /-- default_cab -/
  | defaultCab
  /-- default_chassis -/
  | defaultChassis
  /-- svc_req_id -/
  | svcReqId
  /-- svc_rsp_id -/
  | svcRspId
  deriving DecidableEq, Repr

/-- A row of the parameter tables: the number (R210), the cold-reset value and the range of values. -/
structure ParamRow where
  number : Nat
  cold : Int
  lo : Int
  hi : Int
  deriving DecidableEq, Repr

/-- The row of each parameter. A service identifier is held as the signed number its four bytes read as (R210); which of those
numbers are identifiers is `svcIdValid`. -/
def ParamId.row : ParamId → ParamRow
  | .staleMult => ⟨1, 3, 2, 8⟩
  | .spacing => ⟨16, 30, 10, 100⟩
  | .lag => ⟨17, 1200, 400, 2000⟩
  | .odoMaxStep => ⟨18, 500, 50, 2000⟩
  | .mech => ⟨19, 1800, 0, 2000⟩
  | .slew => ⟨20, 20, 1, 500⟩
  | .centreBand => ⟨21, 50, 10, 300⟩
  | .trackTol => ⟨22, 150, 20, 1000⟩
  | .trackCount => ⟨23, 5, 1, 50⟩
  | .jkAngle => ⟨24, 4000, 1000, 5500⟩
  | .jkSpeed => ⟨25, 1500, 0, 12000⟩
  | .pMax => ⟨32, 800, 300, 1000⟩
  | .stopP => ⟨33, 250, 100, 600⟩
  | .stopTol => ⟨34, 20, 5, 100⟩
  | .releaseTol => ⟨35, 30, 5, 100⟩
  | .stopSpeed => ⟨36, 300, 0, 500⟩
  | .emgSpeed => ⟨37, 500, 0, 1000⟩
  | .staticWF => ⟨38, 450, 50, 1000⟩
  | .staticWM => ⟨39, 600, 50, 1000⟩
  | .staticWR => ⟨40, 500, 50, 1000⟩
  | .jkBias => ⟨41, 128, 0, 512⟩
  | .applyTimeout => ⟨42, 1500, 100, 10000⟩
  | .releaseTimeout => ⟨43, 2000, 100, 10000⟩
  | .deadband => ⟨48, 6, 2, 20⟩
  | .wakeBand => ⟨49, 12, 3, 40⟩
  | .quietCount => ⟨50, 8, 1, 64⟩
  | .wakeMs => ⟨51, 400, 0, 5000⟩
  | .pulseGain => ⟨52, 10, 1, 100⟩
  | .pulseMin => ⟨53, 20, 10, 200⟩
  | .pulseMax => ⟨54, 500, 50, 2000⟩
  | .raiseCost => ⟨55, 4, 1, 255⟩
  | .airLow => ⟨56, 9600, 0, 20800⟩
  | .airHigh => ⟨57, 11200, 0, 20800⟩
  | .kneelReserve => ⟨58, 10400, 0, 20800⟩
  | .highOffset => ⟨59, 60, 0, 120⟩
  | .highSpeed => ⟨60, 3000, 0, 6000⟩
  | .kneelSpeed => ⟨61, 100, 0, 300⟩
  | .kneelTimeout => ⟨62, 8000, 1000, 30000⟩
  | .raiseTimeout => ⟨63, 10000, 1000, 30000⟩
  | .releaseSpeed => ⟨64, 300, 0, 500⟩
  | .prepTimeout => ⟨65, 3000, 500, 20000⟩
  | .warnMs => ⟨66, 1500, 0, 5000⟩
  | .lockTimeout => ⟨67, 4000, 500, 20000⟩
  | .obstructLimit => ⟨68, 3, 1, 10⟩
  | .releaseGap => ⟨80, 500, 0, 5000⟩
  | .torqueCap => ⟨81, 800, 0, 3000⟩
  | .enableMask => ⟨82, 15, 0, 15⟩
  | .defaultCab => ⟨96, 0, 0, 1⟩
  | .defaultChassis => ⟨97, 0, 0, 1⟩
  | .svcReqId => ⟨112, (-1672607216), (-2147483648), 2147483647⟩
  | .svcRspId => ⟨113, (-1672607215), (-2147483648), 2147483647⟩

/-- Every parameter, in the order of the numbers. -/
def ParamId.all : List ParamId :=
  [.staleMult, .spacing, .lag, .odoMaxStep, .mech, .slew, .centreBand, .trackTol, .trackCount, .jkAngle, .jkSpeed, .pMax, .stopP, .stopTol, .releaseTol, .stopSpeed, .emgSpeed, .staticWF, .staticWM, .staticWR, .jkBias, .applyTimeout, .releaseTimeout, .deadband, .wakeBand, .quietCount, .wakeMs, .pulseGain, .pulseMin, .pulseMax, .raiseCost, .airLow, .airHigh, .kneelReserve, .highOffset, .highSpeed, .kneelSpeed, .kneelTimeout, .raiseTimeout, .releaseSpeed, .prepTimeout, .warnMs, .lockTimeout, .obstructLimit, .releaseGap, .torqueCap, .enableMask, .defaultCab, .defaultChassis, .svcReqId, .svcRspId]

/-- The place of a parameter in the parameter table's storage. -/
def ParamId.idx (k : ParamId) : Fin 51 := ⟨k.ctorIdx, by cases k <;> decide⟩

/-- The parameter a number names, if it names one (R210). -/
def ParamId.ofNumber (n : Nat) : Option ParamId := ParamId.all.find? fun k => k.row.number == n

/-- A service identifier value is one of 0..2047 or 0x80000000..0x9FFFFFFF, read as an unsigned 32-bit number (R210). -/
def svcIdValid (v : BitVec 32) : Bool :=
  decide (v.toNat < 2048) || (decide (0x80000000 ≤ v.toNat) && decide (v.toNat ≤ 0x9FFFFFFF))

end Sys2Proof.Machine
end

