-- ==== Sys2Proof/Machine/SignalTable.lean ====
section
/-! DEFINITION. The 27 signals: their numbers (R209), ranges and out-of-range handling, and the blocks that read them (R8). -/

namespace Sys2Proof.Machine

/-- The named signals, in the order of R8 and so of their numbers (R209). -/
inductive Sig where
  | fwa | art | vsp | odo | gear | bpd | rsa | apf | apm | apr | blf | blm | blr
  | hfl | hfr | hml | hmr | hrl | hrr | rsv | ds1 | ds2 | ds3 | ds4 | drq | ksw | frz
  deriving DecidableEq, Repr

/-- How a signal treats a channel value (R8): ERROR refuses a value outside the range, SATURATE clamps it, MODULAR takes it
modulo 65536, and a signal of any value has none outside. -/
inductive Handling where
  | error (lo hi : Int) | saturate (lo hi : Int) | modular | any
  deriving DecidableEq, Repr

/-- The range and handling column of R8. -/
def Sig.handling : Sig → Handling
  | .fwa => .error (-4500) 4500
  | .art => .error (-5500) 5500
  | .vsp => .saturate 0 12000
  | .odo => .modular
  | .gear => .error 0 2
  | .bpd => .saturate 0 1000
  | .rsa => .error (-2000) 2000
  | .apf => .saturate 0 1000
  | .apm => .saturate 0 1000
  | .apr => .saturate 0 1000
  | .blf => .saturate 0 1000
  | .blm => .saturate 0 1000
  | .blr => .saturate 0 1000
  | .hfl => .error (-200) 200
  | .hfr => .error (-200) 200
  | .hml => .error (-200) 200
  | .hmr => .error (-200) 200
  | .hrl => .error (-200) 200
  | .hrr => .error (-200) 200
  | .rsv => .saturate 0 1300
  | .ds1 => .error 0 15
  | .ds2 => .error 0 15
  | .ds3 => .error 0 15
  | .ds4 => .error 0 15
  | .drq => .any
  | .ksw => .error 0 4
  | .frz => .error 0 1

/-- A signal that may be bound to a secondary channel as well (R6, R8). -/
def Sig.pairable : Sig → Bool
  | .fwa | .art | .vsp => true
  | _ => false

/-- Every signal, in the order of the numbers. -/
def Sig.all : List Sig :=
  [.fwa, .art, .vsp, .odo, .gear, .bpd, .rsa, .apf, .apm, .apr, .blf, .blm, .blr,
   .hfl, .hfr, .hml, .hmr, .hrl, .hrr, .rsv, .ds1, .ds2, .ds3, .ds4, .drq, .ksw, .frz]

/-- The signal number (R209): the index of the binding table and the page of STATE_READ(SGM). -/
def Sig.num (g : Sig) : Fin 27 := ⟨g.ctorIdx, by cases g <;> decide⟩

/-- The signal of a number. -/
def Sig.ofNum (n : Nat) : Option Sig := Sig.all[n]?

/-- The blocks that receive signal events. -/
inductive Reader where
  | rse | bdu | rhc | dic | tic | cft
  deriving DecidableEq, Repr

/-- The "Read by" column of R8, in the order in which each row of it lists the blocks. -/
def Sig.readers : Sig → List Reader
  | .fwa | .art | .odo | .gear => [.rse]
  | .vsp => [.rse, .bdu, .rhc, .dic, .tic]
  | .bpd | .blf | .blm | .blr => [.bdu]
  | .rsa => [.rse, .dic]
  | .apf => []
  | .apm | .apr => [.bdu, .cft]
  | .hfl | .hfr | .hml | .hmr | .hrl | .hrr | .rsv | .ksw | .frz => [.rhc]
  | .ds1 | .ds2 | .ds3 | .ds4 => [.dic, .cft]
  | .drq => [.dic, .bdu]

/-- The height signal of a corner (R81). -/
def heightSig : Corner → Sig
  | .fl => .hfl | .fr => .hfr | .ml => .hml | .mr => .hmr | .rl => .hrl | .rr => .hrr

/-- The corner a height signal belongs to (R81). -/
def cornerOf : Sig → Option Corner
  | .hfl => some .fl | .hfr => some .fr | .hml => some .ml | .hmr => some .mr | .hrl => some .rl | .hrr => some .rr
  | _ => none

/-- The status record signal of a door (R9). -/
def statusSig : Door → Sig
  | .d1 => .ds1 | .d2 => .ds2 | .d3 => .ds3 | .d4 => .ds4

/-- The door a status record signal belongs to (R9). -/
def doorOf : Sig → Option Door
  | .ds1 => some .d1 | .ds2 => some .d2 | .ds3 => some .d3 | .ds4 => some .d4
  | _ => none

end Sys2Proof.Machine
end

