-- ==== Sys2Proof/Machine/State.lean ====
section
/-! DEFINITION. The state of the PE36: plain data, holding what the "holds the following state" table of each chapter of spec/
names, and `State.reset`, the state after a cold reset (R206). What a chapter defines as a function of other state (a signal's
value and quality, the trace state, the steering mode, the ratios and brake targets, the almost-full condition, the status
record) is not held twice: Machine/Flags.lean computes it (notes/assumptions/28.md). -/

namespace Sys2Proof.Machine

/-! ### Collections with one entry per port, axle, door and corner -/

/-- One value per port. -/
structure PerPort (α : Type) where
  cab : α
  chassis : α
  deriving DecidableEq, Repr

/-- One value per axle. -/
structure PerAxle (α : Type) where
  f : α
  m : α
  r : α
  deriving DecidableEq, Repr

/-- One value per door. -/
structure PerDoor (α : Type) where
  d1 : α
  d2 : α
  d3 : α
  d4 : α
  deriving DecidableEq, Repr

/-- One value per corner. -/
structure PerCorner (α : Type) where
  fl : α
  fr : α
  ml : α
  mr : α
  rl : α
  rr : α
  deriving DecidableEq, Repr

/-- The three axles (spec/00_scope.md, "The vehicle and the four jobs"). -/
inductive Axle where
  | f | m | r
  deriving DecidableEq, Repr

def PerPort.get {α : Type} (v : PerPort α) : PortId → α
  | .cab => v.cab | .chassis => v.chassis

def PerPort.set {α : Type} (v : PerPort α) (p : PortId) (x : α) : PerPort α :=
  match p with
  | .cab => { v with cab := x } | .chassis => { v with chassis := x }

def PerAxle.get {α : Type} (v : PerAxle α) : Axle → α
  | .f => v.f | .m => v.m | .r => v.r

def PerDoor.get {α : Type} (v : PerDoor α) : Door → α
  | .d1 => v.d1 | .d2 => v.d2 | .d3 => v.d3 | .d4 => v.d4

def PerDoor.set {α : Type} (v : PerDoor α) (d : Door) (x : α) : PerDoor α :=
  match d with
  | .d1 => { v with d1 := x } | .d2 => { v with d2 := x } | .d3 => { v with d3 := x } | .d4 => { v with d4 := x }

def PerDoor.all {α : Type} (v : PerDoor α) (p : α → Bool) : Bool := p v.d1 && p v.d2 && p v.d3 && p v.d4

def PerDoor.any {α : Type} (v : PerDoor α) (p : α → Bool) : Bool := p v.d1 || p v.d2 || p v.d3 || p v.d4

def PerDoor.toList {α : Type} (v : PerDoor α) : List α := [v.d1, v.d2, v.d3, v.d4]

def PerCorner.get {α : Type} (v : PerCorner α) : Corner → α
  | .fl => v.fl | .fr => v.fr | .ml => v.ml | .mr => v.mr | .rl => v.rl | .rr => v.rr

def PerCorner.set {α : Type} (v : PerCorner α) (k : Corner) (x : α) : PerCorner α :=
  match k with
  | .fl => { v with fl := x } | .fr => { v with fr := x } | .ml => { v with ml := x }
  | .mr => { v with mr := x } | .rl => { v with rl := x } | .rr => { v with rr := x }

/-- The values for each corner of a function of the corner. -/
def PerCorner.ofFn {α : Type} (g : Corner → α) : PerCorner α := ⟨g .fl, g .fr, g .ml, g .mr, g .rl, g .rr⟩

def PerCorner.toList {α : Type} (v : PerCorner α) : List α := [v.fl, v.fr, v.ml, v.mr, v.rl, v.rr]

/-- The doors in the order 1 to 4. -/
def allDoors : List Door := [.d1, .d2, .d3, .d4]

/-- The corners in the order FL to RR. -/
def allCorners : List Corner := [.fl, .fr, .ml, .mr, .rl, .rr]

/-! ### Timers -/

/-- A timer (R2): stopped, or running until the model's millisecond clock reads `due` (notes/assumptions/2.md). -/
inductive Timer where
  | stopped
  | running (due : Nat)
  deriving DecidableEq, Repr

/-- A door's dwell timer has a third condition: expired (R107). -/
inductive DwellTimer where
  | stopped
  | running (due : Nat)
  | expired
  deriving DecidableEq, Repr

/-! ### Service responder: operating mode -/

/-- The operating modes (section 10.2), in the order of their encoding (R208). -/
inductive Mode where
  | config | run | service
  deriving DecidableEq, Repr

/-! ### Signal monitor (chapter 1) -/

/-- The quality of a signal (R19). -/
inductive Quality where
  | good | held | lost
  deriving DecidableEq, Repr

/-- The channel states (section 1.5). -/
inductive ChanState where
  | never | fresh | suspect | stale
  deriving DecidableEq, Repr

/-- PRIMARY or SECONDARY: the role of a channel (R4) and the selection of a binding (R6). -/
inductive Position where
  | primary | secondary
  deriving DecidableEq, Repr

/-- Whether a value that arrives with a sequence error is taken (R4). -/
inductive SeqAction where
  | accept | reject
  deriving DecidableEq, Repr

/-- The configuration part of a channel entry (R4). `wide` is a value width of two bytes, `signed` the signedness SIGNED. -/
structure ChanCfg where
  sig : Sig
  role : Position
  offset : Nat
  wide : Bool
  signed : Bool
  bias : Int
  alivePos : Option Nat
  checkPos : Option Nat
  maxAge : Nat
  seqAction : SeqAction
  next : Option (Fin 48)
  deriving DecidableEq, Repr

/-- The run state of a channel entry (R4). -/
structure ChanRun where
  state : ChanState
  lastGood : Option Int
  errCount : Nat
  goodRun : Nat
  freshTimer : Timer
  staleTimer : Timer
  expAlive : Option Alive
  deriving DecidableEq, Repr

/-- A configured channel entry (R4). -/
structure Channel where
  cfg : ChanCfg
  run : ChanRun
  deriving DecidableEq, Repr

/-- How the selection comes back to the primary channel (R6). -/
inductive ReturnRule where
  | revert | stay
  deriving DecidableEq, Repr

/-- The configuration of a binding (R6). -/
structure BindCfg where
  primary : Fin 48
  secondary : Option (Fin 48)
  autoSwitch : Bool
  back : ReturnRule
  limit : Option Nat
  deriving DecidableEq, Repr

/-- The run state of a binding (R6). -/
structure BindRun where
  selection : Position
  disagree : Bool
  mismatchRun : Nat
  matchRun : Nat
  held : Option Int
  deriving DecidableEq, Repr

/-- A binding entry: unbound, or bound by a configuration (R6). -/
structure Binding where
  cfg : Option BindCfg
  run : BindRun
  deriving DecidableEq, Repr

/-- The signal monitor: the channel table and the binding table (chapter 1). -/
structure Sgm where
  channels : Vector (Option Channel) 48
  bindings : Vector Binding 27
  deriving DecidableEq, Repr

/-- The NEVER run state (R4). -/
def ChanRun.neverRun : ChanRun := ⟨.never, none, 0, 0, .stopped, .stopped, none⟩

/-- The run state of a binding after a reset (R25). -/
def BindRun.start : BindRun := ⟨.primary, false, 0, 0, none⟩

/-! ### Rear-axle steering engine (chapter 2) -/

/-- A sample of the trace (R26). -/
structure Sample where
  stamp : Dist
  angle : Int
  deriving DecidableEq, Repr

/-- A breakpoint record of a steering profile (R38). -/
structure Breakpoint where
  speed : Int
  gain : Int
  delta : Int
  deriving DecidableEq, Repr

/-- A steering profile (R38). `valid` is the profile state VALID. -/
structure Profile where
  n : Nat
  lo : Int
  hi : Int
  bounded : Bool
  points : Vector Breakpoint 16
  valid : Bool
  deriving DecidableEq, Repr

/-- The crossfade record (R45, R48). -/
structure Crossfade where
  target : Option (Fin 4)
  alpha : Nat
  step : Nat
  deriving DecidableEq, Repr

/-- The members the hold-reason set can have (R34), in the order of their weights (R208). -/
inductive HoldReason where
  | door | kneel | mode | fault | reverse | input
  deriving DecidableEq, Repr

/-- The hold-reason set (R34). -/
structure HoldSet where
  door : Bool
  kneel : Bool
  mode : Bool
  fault : Bool
  reverse : Bool
  input : Bool
  deriving DecidableEq, Repr

/-- The rear-axle steering engine (chapter 2). -/
structure Rse where
  trace : List Sample
  odoNow : Option Dist
  reverse : Bool
  holds : HoldSet
  profiles : Vector Profile 4
  active : Fin 4
  xfade : Crossfade
  target : Int
  issued : Int
  fault : Bool
  mismatchRun : Nat
  jackknife : Bool
  deriving DecidableEq, Repr

/-! ### Brake distribution unit (chapter 3) -/

/-- The members of the stop-brake requester set (R67), in the order of its table. -/
inductive Requester where
  | doors | driver | kneel | mode | emergency | start
  deriving DecidableEq, Repr

/-- The stop-brake requester set (R67). -/
structure ReqSet where
  doors : Bool
  driver : Bool
  kneel : Bool
  mode : Bool
  emergency : Bool
  start : Bool
  deriving DecidableEq, Repr

/-- The stop-brake states (section 3.6). -/
inductive StopBrake where
  | released | pending | applying | applied | releasing | fault
  deriving DecidableEq, Repr

/-- The cause of an axle's brake target (R65), in the order of its encoding (R208). -/
inductive Cause where
  | none | service | stop | emergency
  deriving DecidableEq, Repr

/-- The brake distribution unit (chapter 3). -/
structure Bdu where
  demand : Nat
  backup : Bool
  weights : PerAxle Nat
  req : ReqSet
  stopBrake : StopBrake
  drag : Bool
  deriving DecidableEq, Repr

/-! ### Ride height controller (chapter 4) -/

/-- The states of a corner (R81). -/
inductive CornerState where
  | active | quiet | wake | frozen | off
  deriving DecidableEq, Repr

/-- The direction of a pending pulse (R81). -/
inductive PulseDir where
  | raise | lower
  deriving DecidableEq, Repr

/-- A pending pulse (R81). -/
structure Pulse where
  dir : PulseDir
  ms : Nat
  deriving DecidableEq, Repr

/-- A corner record (R81). -/
structure CornerRec where
  state : CornerState
  target : Int
  quiet : Nat
  wake : Timer
  pulse : Option Pulse
  deriving DecidableEq, Repr

/-- The level modes (R89). -/
inductive LevelMode where
  | ride | high | kneel
  deriving DecidableEq, Repr

/-- The kneel states (section 4.5). -/
inductive KneelState where
  | ride | lowering | knelt | raising
  deriving DecidableEq, Repr

/-- The pending request (R91). -/
inductive PendingReq where
  | none | kneel | raise
  deriving DecidableEq, Repr

/-- The kneel origin (R91). -/
inductive Origin where
  | none | manual | auto
  deriving DecidableEq, Repr

/-- A position of the kneel and level switch (R9, R92), in the order of its coding. -/
inductive SwitchPos where
  | none | kneel | raise | high | ride
  deriving DecidableEq, Repr

/-- The ride height controller (chapter 4). `airOk` is the air state OK. -/
structure Rhc where
  corners : PerCorner CornerRec
  level : LevelMode
  offsets : PerCorner Int
  kneel : KneelState
  pending : PendingReq
  origin : Origin
  kneelTimer : Timer
  raiseTimer : Timer
  fault : Bool
  incomplete : Bool
  freeze : Bool
  lastPos : SwitchPos
  airEstimate : Nat
  airOk : Bool
  deriving DecidableEq, Repr

/-! ### Door interlock controller (chapter 5) -/

/-- The section a door is assigned to (R106). -/
inductive Section where
  | front | rear
  deriving DecidableEq, Repr

/-- How a presence flag acts on the dwell timer (R106). -/
inductive DwellMode where
  | retrigger | fixed
  deriving DecidableEq, Repr

/-- An entry of the door table (R106). -/
structure DoorCfg where
  sect : Section
  autoKneel : Bool
  dwellMode : DwellMode
  dwellTime : Nat
  deriving DecidableEq, Repr

/-- The door states (R107). -/
inductive DoorState where
  | locked | preparing | released | opened | closing | emergency | fault
  deriving DecidableEq, Repr

/-- The door actions (R107). -/
inductive DoorAction where
  | none | permit | warn | withdraw
  deriving DecidableEq, Repr

/-- A door record (R107). -/
structure DoorRec where
  state : DoorState
  action : DoorAction
  relPending : Bool
  prep : Timer
  dwell : DwellTimer
  warn : Timer
  obstructions : Nat
  suspended : Bool
  resetSeen : Bool
  statusUnknown : Bool
  faultFlag : Bool
  deriving DecidableEq, Repr

/-- The last acted driver record (R110). -/
structure DriverRec where
  release : PerDoor Bool
  closeAll : Bool
  emergencyReset : Bool
  deriving DecidableEq, Repr

/-- The door interlock controller (chapter 5). -/
structure Dic where
  table : PerDoor DoorCfg
  doors : PerDoor DoorRec
  last : DriverRec
  deriving DecidableEq, Repr

/-! ### Confirmation tracker (chapter 6) -/

/-- An entry of the expectation queue (R131). Its placer follows from its kind. -/
structure Expectation where
  key : ExpKey
  due : Nat
  deriving DecidableEq, Repr

/-! ### Traction inhibit combiner (chapter 7) -/

/-- The nine inhibit sources in the order of R143, then the three limit sources in the order of R144. -/
inductive Source where
  | doorOpen | emergency | stopBrake | kneel | mode | doorStatusLost | airLow | speedLost | mgmt
  | jackknife | steerFault | highLevel
  deriving DecidableEq, Repr

/-- The place of a source in the order of R143 and R144. -/
def Source.idx (k : Source) : Fin 12 := ⟨k.ctorIdx, by cases k <;> decide⟩

/-- A source: ACTIVE or not, and the clock at its latest change to ACTIVE or at a later clear of its active time (R153). -/
structure SourceState where
  active : Bool
  since : Nat
  deriving DecidableEq, Repr

/-- The combined states (section 7.2), in the order of their encoding (R208). -/
inductive Combined where
  | inhibited | gap | permitted
  deriving DecidableEq, Repr

/-- The traction inhibit combiner (chapter 7). -/
structure Tic where
  sources : Vector SourceState 12
  combined : Combined
  gapTimer : Timer
  deriving DecidableEq, Repr

/-! ### Ports and frame router (chapter 8) -/

/-- The transmit sources of a port (R168), in the order of its table. -/
inductive TxSource where
  | urgent | response | scheduled | forward
  deriving DecidableEq, Repr

/-- The frame a BUSY transmitter sends and the source it took it from. `detached` marks a transmission that a warm restart found
under way, whose outcome is counted and changes nothing else (R174). -/
structure Transmission where
  frame : Frame
  source : TxSource
  detached : Bool
  deriving DecidableEq, Repr

/-- A port: its queues and scheduled-frame buffer, its transmitter (none when IDLE), its port state (`up`), its
consecutive-abandon count, its recovery timer and its retry-ready flag (chapter 8). -/
structure Port where
  receive : List Frame
  forward : List Frame
  scheduled : Option Frame
  tx : Option Transmission
  up : Bool
  abandons : Nat
  recovery : Timer
  retryReady : Bool
  deriving DecidableEq, Repr

/-- The arrival port field of a route entry (R157). -/
inductive ArrivalPort where
  | cab | chassis | any
  deriving DecidableEq, Repr

/-- The action of a route entry, with the fields that are present with it (R157). -/
inductive RouteAction where
  | pass
  | tap (channel : Fin 48)
  | passTap (channel : Fin 48)
  | rewrite (torqueAt checkAt : Nat)
  | drop
  deriving DecidableEq, Repr

/-- A configured route entry (R157). -/
structure RouteEntry where
  arrival : ArrivalPort
  kind : IdKind
  ident : Ident
  mask : Ident
  action : RouteAction
  deriving DecidableEq, Repr

/-! ### Transmit scheduler (chapter 9) -/

/-- The generated kinds (R177), in the order of their numbers. -/
inductive GenKind where
  | rsc | bac | vlc1 | vlc2 | vlc3 | dcm | gst
  deriving DecidableEq, Repr

/-- The place of a kind in the order of R177. -/
def GenKind.idx (k : GenKind) : Fin 7 := ⟨k.ctorIdx, by cases k <;> decide⟩

/-- The port a kind belongs to (R177). -/
def GenKind.port : GenKind → PortId
  | .gst => .cab
  | _ => .chassis

/-- A configured schedule entry (R177). Its port field always equals the port of its kind. -/
structure SchedEntry where
  slot : Fin 20
  period : Nat
  phase : Nat
  kind : GenKind
  idKind : IdKind
  ident : Ident
  deriving DecidableEq, Repr

/-- The transmit scheduler (chapter 9). `slot` is the slot last reached, none until slot 0 is first reached after a reset. -/
structure Txs where
  cycle : Fin 10
  slot : Option (Fin 20)
  table : Vector (Option SchedEntry) 32
  repeats : Vector Bool 32
  alive : Vector Alive 7
  deriving DecidableEq, Repr

/-! ### Counters -/

/-- The counters of a channel entry (R24), in the order of R24. -/
structure ChanCtr where
  accepted : Nat := 0
  checkErrors : Nat := 0
  sequenceErrors : Nat := 0
  repeatErrors : Nat := 0
  rangeErrors : Nat := 0
  suspectEntries : Nat := 0
  staleEntries : Nat := 0
  deriving DecidableEq, Repr

/-- The counters of a binding entry (R24). -/
structure BindCtr where
  switches : Nat := 0
  disagreements : Nat := 0
  deriving DecidableEq, Repr

/-- The signal monitor's counters (R24). -/
structure SgmCtr where
  chans : Vector ChanCtr 48
  binds : Vector BindCtr 27
  unconfiguredTaps : Nat
  deriving DecidableEq, Repr

/-- The steering counters (R56). -/
structure RseCtr where
  discontinuities : Nat := 0
  overflows : Nat := 0
  expiries : Nat := 0
  steerFaults : Nat := 0
  jackknifeOnsets : Nat := 0
  crossfades : Nat := 0
  deriving DecidableEq, Repr

/-- The brake counters (R79). -/
structure BduCtr where
  applications : Nat := 0
  applyFaults : Nat := 0
  lateConfirmations : Nat := 0
  sags : Nat := 0
  drags : Nat := 0
  backupOnsets : Nat := 0
  deriving DecidableEq, Repr

/-- The counters of one corner (R103). -/
structure CornerCtr where
  excursions : Nat := 0
  offEntries : Nat := 0
  deriving DecidableEq, Repr

/-- The levelling counters (R103). -/
structure RhcCtr where
  corners : PerCorner CornerCtr
  freezes : Nat
  discardedRaises : Nat
  refusedHigh : Nat
  highReturns : Nat
  refusedKneels : Nat
  reversals : Nat
  cancellations : Nat
  incompleteKneels : Nat
  kneelFaults : Nat
  deriving DecidableEq, Repr

/-- The counters of one door (R129). -/
structure DoorCtr where
  releases : Nat := 0
  overrideReleases : Nat := 0
  prepTimeouts : Nat := 0
  cancellations : Nat := 0
  obstructions : Nat := 0
  suspensions : Nat := 0
  faults : Nat := 0
  vents : Nat := 0
  foundUnlocked : Nat := 0
  deriving DecidableEq, Repr

/-- The tracker's counters of one kind (R141). -/
structure KindCtr where
  placed : Nat := 0
  satisfied : Nat := 0
  timedOut : Nat := 0
  evicted : Nat := 0
  deriving DecidableEq, Repr

/-- The tracker's counters (R141). -/
structure CftCtr where
  doorLock : KindCtr
  stopApply : KindCtr
  stopRelease : KindCtr
  cancelled : Nat
  cancelMisses : Nat
  superseded : Nat
  almostFullOnsets : Nat
  resetRemovals : Nat
  peak : Nat
  deriving DecidableEq, Repr

/-- The counters of one traction source (R153). -/
structure SourceCtr where
  activations : Nat := 0
  activeTime : Nat := 0
  deriving DecidableEq, Repr

/-- The traction counters (R153). -/
structure TicCtr where
  sources : Vector SourceCtr 12
  inhibitOnsets : Nat
  permitOnsets : Nat
  rewritten : Nat
  inhibitCuts : Nat
  limitCaps : Nat
  checkDrops : Nat
  shortFrames : Nat
  deriving DecidableEq, Repr

/-- The frame-path counters of one port (R165). -/
structure PortCtr where
  received : Nat := 0
  forwarded : Nat := 0
  consumed : Nat := 0
  dropped : Nat := 0
  rxOverflow : Nat := 0
  fwdOverflow : Nat := 0
  clash : Nat := 0
  txSent : Nat := 0
  txAbandoned : Nat := 0
  deriving DecidableEq, Repr

/-- The urgent-path counters of BAC or DCM (R187). -/
structure UrgentCtr where
  builds : Nat := 0
  refusals : Nat := 0
  noEntry : Nat := 0
  deriving DecidableEq, Repr

/-- The transmit-schedule counters (R187). -/
structure TxsCtr where
  scheduled : Vector Nat 7
  deferrals : Vector Nat 7
  urgentBac : UrgentCtr
  urgentDcm : UrgentCtr
  deriving DecidableEq, Repr

/-- The service counters (R206). -/
structure SvrCtr where
  requestsTaken : Nat := 0
  refusals : Nat := 0
  busyDrops : Nat := 0
  shortRequests : Nat := 0
  commitFailures : Nat := 0
  modeChanges : Nat := 0
  deriving DecidableEq, Repr

/-- Every counter of every counter group (R202). -/
structure Counters where
  sgm : SgmCtr
  rse : RseCtr
  bdu : BduCtr
  rhc : RhcCtr
  dic : PerDoor DoorCtr
  cft : CftCtr
  tic : TicCtr
  frt : PerPort PortCtr
  txs : TxsCtr
  svr : SvrCtr
  deriving DecidableEq, Repr

def SgmCtr.zero : SgmCtr := ⟨Vector.replicate 48 {}, Vector.replicate 27 {}, 0⟩
def RhcCtr.zero : RhcCtr := ⟨PerCorner.ofFn fun _ => {}, 0, 0, 0, 0, 0, 0, 0, 0, 0⟩
def CftCtr.zero : CftCtr := ⟨{}, {}, {}, 0, 0, 0, 0, 0, 0⟩
def TicCtr.zero : TicCtr := ⟨Vector.replicate 12 {}, 0, 0, 0, 0, 0, 0, 0⟩
def TxsCtr.zero : TxsCtr := ⟨Vector.replicate 7 0, Vector.replicate 7 0, {}, {}⟩

/-- Every counter at 0, as after a cold reset. -/
def Counters.zero : Counters where
  sgm := .zero
  rse := {}
  bdu := {}
  rhc := .zero
  dic := ⟨{}, {}, {}, {}⟩
  cft := .zero
  tic := .zero
  frt := ⟨{}, {}⟩
  txs := .zero
  svr := {}

/-! ### Service responder (chapter 10) -/

/-- A service identifier: an identifier kind and an identifier (R191). -/
structure SvcId where
  kind : IdKind
  ident : Ident
  deriving DecidableEq, Repr

/-- The tables reached by TABLE_OPEN (R195). -/
inductive TableId where
  | route | channel | binding | schedule | door | kneelOffset
  | profile (p : Fin 4)
  deriving DecidableEq, Repr

/-- The last commit result (R193): none, OK, or CHECK_FAILED with a table number and an index. -/
inductive CommitResult where
  | none | ok
  | checkFailed (table index : Nat)
  deriving DecidableEq, Repr

/-- The copy a SNAPSHOT makes (R201): every counter, and the occupancies the balances of R141 and R166 need. -/
structure Snapshot where
  counters : Counters
  receiveOccupancy : PerPort Nat
  trackerOccupancy : Nat
  deriving DecidableEq, Repr

/-- The service responder (chapter 10). The parameter table stands in `State.params`. -/
structure Svr where
  response : Option Frame
  pointer : Option (TableId × Nat)
  reqId : SvcId
  rspId : SvcId
  lastCommit : CommitResult
  snapNumber : Nat
  snapshot : Option Snapshot
  deriving DecidableEq, Repr

/-- The parameter table: the written value of every parameter (R199). -/
structure Params where
  values : Vector Int 51
  deriving DecidableEq, Repr

def Params.get (p : Params) (k : ParamId) : Int := p.values[k.idx]

def Params.set (p : Params) (k : ParamId) (v : Int) : Params := ⟨p.values.set k.idx v⟩

/-- Every parameter at its cold-reset value (R18, R54, R77, R101, R127, R152, R159, R191). -/
def Params.cold : Params := ⟨⟨⟨ParamId.all.map fun k => k.row.cold⟩, by decide⟩⟩

/-- The two output lines (spec/00_scope.md, "Connections"): true is high. -/
structure Lines where
  stopHold : Bool
  tractionPermit : Bool
  deriving DecidableEq, Repr

/-! ### The whole part -/

/-- The state of the PE36. The fields of the model's own are `pending`, the commands not yet taken; `now`, a millisecond
clock that counts slot arrivals (notes/assumptions/2.md); and `readerPref`, the order in which the blocks that read one signal
receive its event, which no rule fixes (notes/assumptions/4.md). -/
structure State where
  pending : List Instr
  now : Nat
  readerPref : List Reader
  mode : Mode
  params : Params
  sgm : Sgm
  rse : Rse
  bdu : Bdu
  rhc : Rhc
  dic : Dic
  cft : List Expectation
  tic : Tic
  ports : PerPort Port
  urgent : List Frame
  routes : Vector (Option RouteEntry) 128
  txs : Txs
  svr : Svr
  ctr : Counters
  lines : Lines
  deriving DecidableEq, Repr

/-- No command of the PE36 stops the machine: every rule gives each operation and event an outcome. -/
inductive Fault where
  deriving DecidableEq, Repr

/-- The reasons a step refuses a command. -/
inductive Refusal where
  /-- Raised by an arm of `exec` whose command has no meaning yet; safe, since nothing is claimed of it. No arm does. -/
  | notModelled (mnemonic : String)
  deriving DecidableEq, Repr

/-! ### Reset values -/

/-- An EMPTY profile: every field 0, INVALID (R38). -/
def Profile.zero : Profile := ⟨0, 0, 0, false, Vector.replicate 16 ⟨0, 0, 0⟩, false⟩

/-- The crossfade record after a cold or warm reset: no target, α 0 (R57). The step is the model's (notes/assumptions/20.md). -/
def Crossfade.idle : Crossfade := ⟨none, 0, 1⟩

/-- The steering engine after a cold reset (R57). -/
def Rse.cold : Rse where
  trace := []
  odoNow := none
  reverse := false
  holds := ⟨false, false, true, false, false, false⟩
  profiles := Vector.replicate 4 .zero
  active := 0
  xfade := .idle
  target := 0
  issued := 0
  fault := false
  mismatchRun := 0
  jackknife := false

/-- The brake distribution unit after a reset, with the static weights (R80). -/
def Bdu.start (statics : PerAxle Nat) : Bdu where
  demand := 0
  backup := true
  weights := statics
  req := ⟨false, false, false, true, false, true⟩
  stopBrake := .pending
  drag := false

/-- A corner after a cold or warm reset (R104). -/
def CornerRec.start : CornerRec := ⟨.wake, 0, 0, .stopped, none⟩

/-- The ride height controller after a reset, with the kneel offset table (R104). -/
def Rhc.start (offsets : PerCorner Int) : Rhc where
  corners := PerCorner.ofFn fun _ => .start
  level := .ride
  offsets := offsets
  kneel := .ride
  pending := .none
  origin := .none
  kneelTimer := .stopped
  raiseTimer := .stopped
  fault := false
  incomplete := false
  freeze := false
  lastPos := .none
  airEstimate := 0
  airOk := false

/-- The kneel offset table after a cold reset (R89). -/
def coldOffsets : PerCorner Int := ⟨0, -70, 0, -50, 0, -40⟩

/-- A door record after a cold or warm reset (R130). -/
def DoorRec.start : DoorRec := ⟨.locked, .none, false, .stopped, .stopped, .stopped, 0, false, false, true, false⟩

/-- The last acted driver record after a reset (R130). -/
def DriverRec.off : DriverRec := ⟨⟨false, false, false, false⟩, false, false⟩

/-- The door table after a cold reset (R106). -/
def coldDoors : PerDoor DoorCfg :=
  ⟨⟨.front, false, .retrigger, 6000⟩, ⟨.front, false, .retrigger, 6000⟩,
   ⟨.rear, false, .retrigger, 6000⟩, ⟨.rear, false, .retrigger, 6000⟩⟩

/-- The door interlock after a reset, with the door table (R130). -/
def Dic.start (table : PerDoor DoorCfg) : Dic := ⟨table, ⟨.start, .start, .start, .start⟩, .off⟩

/-- Which sources are ACTIVE after a cold or warm reset (R155). -/
def Source.activeAtReset : Source → Bool
  | .stopBrake | .mode | .doorStatusLost | .airLow | .speedLost => true
  | _ => false

/-- The sources in their order. -/
def allSources : List Source :=
  [.doorOpen, .emergency, .stopBrake, .kneel, .mode, .doorStatusLost, .airLow, .speedLost, .mgmt, .jackknife, .steerFault,
   .highLevel]

/-- The combiner after a reset at clock `now` (R155). -/
def Tic.start (now : Nat) : Tic where
  sources := ⟨⟨allSources.map fun k => ⟨k.activeAtReset, now⟩⟩, by simp [allSources]⟩
  combined := .inhibited
  gapTimer := .stopped

/-- A port after a cold reset (R174). -/
def Port.cold : Port := ⟨[], [], none, none, true, 0, .stopped, false⟩

/-- The scheduler after a cold reset (R188). -/
def Txs.cold : Txs := ⟨0, none, Vector.replicate 32 none, Vector.replicate 32 false, Vector.replicate 7 0⟩

/-- The responder after a cold reset (R206, R191). -/
def Svr.cold : Svr where
  response := none
  pointer := none
  reqId := ⟨.extended, 0x1C4E0A10⟩
  rspId := ⟨.extended, 0x1C4E0A11⟩
  lastCommit := .none
  snapNumber := 0
  snapshot := none

/-- The machine right after a cold reset: CONFIG, every table EMPTY, every parameter at its default, both lines low (R206). -/
def State.reset : State where
  pending := []
  now := 0
  readerPref := []
  mode := .config
  params := .cold
  sgm := ⟨Vector.replicate 48 none, Vector.replicate 27 ⟨none, .start⟩⟩
  rse := .cold
  bdu := .start ⟨450, 600, 500⟩
  rhc := .start coldOffsets
  dic := .start coldDoors
  cft := []
  tic := .start 0
  ports := ⟨.cold, .cold⟩
  urgent := []
  routes := Vector.replicate 128 none
  txs := .cold
  svr := .cold
  ctr := .zero
  lines := ⟨false, false⟩

end Sys2Proof.Machine
end

