-- ==== Sys2Proof/Machine/Ops.lean ====
section
/-! DEFINITION. Shared operations that belong to no one block: rounding and clamping, byte fields, counters, timers, the sets,
and the records a state holds under a parameter, a counter or a table index. -/

namespace Sys2Proof.Machine

/-! ### Arithmetic (spec/00_scope.md, "Rounding" and "Modular distance") -/

/-- The quotient rounded to the nearest integer, halves away from zero; `d` is positive wherever a rule divides. -/
def roundDiv (n : Int) (d : Nat) : Int :=
  if 0 ≤ n then ((2 * n.natAbs + d) / (2 * d) : Nat) else -((2 * n.natAbs + d) / (2 * d) : Nat)

/-- The value clamped to [lo, hi]: lo below it, hi above it, the value otherwise. -/
def clamp (lo hi x : Int) : Int := if x < lo then lo else if hi < x then hi else x

/-- The value taken modulo 65536 into 0..65535. -/
def mod65536 (x : Int) : Int := x.emod 65536

/-- How far distance count `now` lies ahead of `stamp`, modulo 65536 (spec/00_scope.md, "Modular distance"). -/
def distBehind (now stamp : Dist) : Nat := (now - stamp).toNat

/-! ### Byte fields: most significant byte first (spec/00_scope.md, "Byte order") -/

/-- A one-byte field. -/
def b1 (n : Nat) : List Byte := [BitVec.ofNat 8 n]

/-- A two-byte field. -/
def b2 (n : Nat) : List Byte := [BitVec.ofNat 8 (n / 256), BitVec.ofNat 8 n]

/-- A four-byte field. -/
def b4 (n : Nat) : List Byte := b2 (n / 65536) ++ b2 n

/-- A signed two-byte field in two's complement. -/
def i2 (x : Int) : List Byte := b2 (BitVec.ofInt 16 x).toNat

/-- A signed three-byte field in two's complement. -/
def i3 (x : Int) : List Byte := let w := (BitVec.ofInt 24 x).toNat; b1 (w / 65536) ++ b2 w

/-- A signed four-byte field in two's complement. -/
def i4 (x : Int) : List Byte := b4 (BitVec.ofInt 32 x).toNat

/-- A flag byte: 0 clear, 1 set (chapter 11). -/
def flag (b : Bool) : List Byte := [if b then 1 else 0]

/-- A set: the sum of the weights 1, 2, 4, ... of the members present (chapter 11). -/
def setWeight : List Bool → Nat
  | [] => 0
  | b :: t => (if b then 1 else 0) + 2 * setWeight t

/-- Byte `i` of a payload, 0 where there is none. -/
def byteAt (p : List Byte) (i : Nat) : Nat := (p.getD i 0).toNat

/-- The two bytes at `i`, unsigned. -/
def word16At (p : List Byte) (i : Nat) : Nat := 256 * byteAt p i + byteAt p (i + 1)

/-- The three bytes at `i`, unsigned. -/
def word24At (p : List Byte) (i : Nat) : Nat := 65536 * byteAt p i + word16At p (i + 1)

/-- The four bytes at `i`, unsigned. -/
def word32At (p : List Byte) (i : Nat) : Nat := 65536 * word16At p i + word16At p (i + 2)

/-- An unsigned field of `w` bits read in two's complement. -/
def signedOf (w : Nat) (n : Nat) : Int := if 2 ^ (w - 1) ≤ n then (n : Int) - 2 ^ w else n

/-- The sum of a payload's bytes modulo 256 (spec/00_scope.md, "Check byte"). -/
def sumBytes (p : List Byte) : Nat := (p.foldl (fun a b => a + b.toNat) 0) % 256

/-- The check byte that makes a payload whose other bytes are `p` sum to 0xFF (R150, R180). -/
def checkFor (p : List Byte) : Byte := BitVec.ofNat 8 (255 - sumBytes p)

/-- A payload carried to `n` bytes by bytes of 0. -/
def padTo (n : Nat) (p : List Byte) : List Byte := p ++ List.replicate (n - p.length) 0

/-! ### Counters -/

/-- A 16-bit counter increased by 1, holding at 65535. -/
def bump (n : Nat) : Nat := if n < Config.hold16 then n + 1 else n

/-- A 16-bit counter increased by `k`, holding at 65535. -/
def bumpBy (n k : Nat) : Nat := if n < Config.hold16 then min (n + k) Config.hold16 else n

/-- A 32-bit counter increased by `k`, holding at 4294967295. -/
def bump32By (n k : Nat) : Nat := if n < Config.hold32 then min (n + k) Config.hold32 else n

/-- A 32-bit counter increased by 1, holding at 4294967295. -/
def bump32 (n : Nat) : Nat := bump32By n 1

/-- A count of 0..255 increased by 1, holding at 255 (R4, R107). -/
def bump255 (n : Nat) : Nat := if n < 255 then n + 1 else n

/-! ### Timers (R2) -/

def Timer.isRunning : Timer → Bool
  | .stopped => false
  | .running _ => true

/-- The timer runs and its duration has passed at clock `now`: an expiry is the end of the whole duration, counted from the latest
start (R2; notes/assumptions/2.md). -/
def Timer.ended (now : Nat) : Timer → Bool
  | .stopped => false
  | .running due => decide (due ≤ now)

/-- The milliseconds left on a running timer at clock `now`. -/
def Timer.left (now : Nat) : Timer → Option Nat
  | .stopped => none
  | .running due => some (due - now)

def DwellTimer.isRunning : DwellTimer → Bool
  | .running _ => true
  | _ => false

/-- The dwell timer runs and its duration has passed at clock `now` (R2). -/
def DwellTimer.ended (now : Nat) : DwellTimer → Bool
  | .running due => decide (due ≤ now)
  | _ => false

/-- A timer started for `ms` at the state's clock. -/
def State.timer (s : State) (ms : Nat) : Timer := .running (s.now + ms)

/-! ### Vectors -/

/-- A vector with a function applied to every element. -/
def vmap {α β : Type} {n : Nat} (g : α → β) (v : Vector α n) : Vector β n := ⟨⟨v.toList.map g⟩, by simp⟩

/-- Element `i` of a vector changed by a function. -/
def vmodify {α : Type} {n : Nat} (v : Vector α n) (i : Fin n) (g : α → α) : Vector α n := v.set i (g v[i])

/-! ### Sets -/

/-- Membership in the hold-reason set. -/
def HoldSet.has (h : HoldSet) : HoldReason → Bool
  | .door => h.door | .kneel => h.kneel | .mode => h.mode | .fault => h.fault | .reverse => h.reverse | .input => h.input

/-- A member of the hold-reason set added (`true`) or removed (`false`); one already so leaves the set as it was (R34). -/
def HoldSet.put (h : HoldSet) (k : HoldReason) (b : Bool) : HoldSet :=
  match k with
  | .door => { h with door := b } | .kneel => { h with kneel := b } | .mode => { h with mode := b }
  | .fault => { h with fault := b } | .reverse => { h with reverse := b } | .input => { h with input := b }

/-- The members in the order of their weights (R208). -/
def HoldSet.toList (h : HoldSet) : List Bool := [h.door, h.kneel, h.mode, h.fault, h.reverse, h.input]

def HoldSet.isEmpty (h : HoldSet) : Bool := !(h.door || h.kneel || h.mode || h.fault || h.reverse || h.input)

/-- Membership in the stop-brake requester set. -/
def ReqSet.has (q : ReqSet) : Requester → Bool
  | .doors => q.doors | .driver => q.driver | .kneel => q.kneel | .mode => q.mode | .emergency => q.emergency
  | .start => q.start

/-- A member of the requester set added (`true`) or removed (`false`) (R67). -/
def ReqSet.put (q : ReqSet) (k : Requester) (b : Bool) : ReqSet :=
  match k with
  | .doors => { q with doors := b } | .driver => { q with driver := b } | .kneel => { q with kneel := b }
  | .mode => { q with mode := b } | .emergency => { q with emergency := b } | .start => { q with start := b }

/-- The members in the order of the table of R67. -/
def ReqSet.toList (q : ReqSet) : List Bool := [q.doors, q.driver, q.kneel, q.mode, q.emergency, q.start]

def ReqSet.isEmpty (q : ReqSet) : Bool := !(q.doors || q.driver || q.kneel || q.mode || q.emergency || q.start)

/-! ### Reading and updating a state -/

/-- The written value of a parameter. -/
def State.par (s : State) (k : ParamId) : Int := s.params.get k

/-- The written value of a parameter whose range holds no negative number. -/
def State.parN (s : State) (k : ParamId) : Nat := (s.params.get k).toNat

def State.setSgm (s : State) (x : Sgm) : State := { s with sgm := x }
def State.setRse (s : State) (x : Rse) : State := { s with rse := x }
def State.setBdu (s : State) (x : Bdu) : State := { s with bdu := x }
def State.setRhc (s : State) (x : Rhc) : State := { s with rhc := x }
def State.setDic (s : State) (x : Dic) : State := { s with dic := x }
def State.setCft (s : State) (x : List Expectation) : State := { s with cft := x }
def State.setTic (s : State) (x : Tic) : State := { s with tic := x }
def State.setPorts (s : State) (x : PerPort Port) : State := { s with ports := x }
def State.setUrgent (s : State) (x : List Frame) : State := { s with urgent := x }
def State.setRoutes (s : State) (x : Vector (Option RouteEntry) 128) : State := { s with routes := x }
def State.setTxs (s : State) (x : Txs) : State := { s with txs := x }
def State.setSvr (s : State) (x : Svr) : State := { s with svr := x }
def State.setCtr (s : State) (x : Counters) : State := { s with ctr := x }
def State.setLines (s : State) (x : Lines) : State := { s with lines := x }
def State.setParams (s : State) (x : Params) : State := { s with params := x }
def State.setMode (s : State) (x : Mode) : State := { s with mode := x }
def State.setNow (s : State) (x : Nat) : State := { s with now := x }
def State.setPending (s : State) (x : List Instr) : State := { s with pending := x }

/-- A port's record replaced. -/
def State.setPort (s : State) (p : PortId) (x : Port) : State := s.setPorts (s.ports.set p x)

/-- A door's record. -/
def State.door (s : State) (d : Door) : DoorRec := s.dic.doors.get d

/-- A door's record replaced, without the reports of R109. -/
def State.putDoor (s : State) (d : Door) (r : DoorRec) : State := s.setDic { s.dic with doors := s.dic.doors.set d r }

/-- A corner's record. -/
def State.corner (s : State) (k : Corner) : CornerRec := s.rhc.corners.get k

/-- A corner's record replaced. -/
def State.putCorner (s : State) (k : Corner) (r : CornerRec) : State :=
  s.setRhc { s.rhc with corners := s.rhc.corners.set k r }

/-- The counters of one block changed by a function. -/
def State.countSgm (s : State) (g : SgmCtr → SgmCtr) : State := s.setCtr { s.ctr with sgm := g s.ctr.sgm }
def State.countRse (s : State) (g : RseCtr → RseCtr) : State := s.setCtr { s.ctr with rse := g s.ctr.rse }
def State.countBdu (s : State) (g : BduCtr → BduCtr) : State := s.setCtr { s.ctr with bdu := g s.ctr.bdu }
def State.countRhc (s : State) (g : RhcCtr → RhcCtr) : State := s.setCtr { s.ctr with rhc := g s.ctr.rhc }
def State.countDoor (s : State) (d : Door) (g : DoorCtr → DoorCtr) : State :=
  s.setCtr { s.ctr with dic := s.ctr.dic.set d (g (s.ctr.dic.get d)) }
def State.countCft (s : State) (g : CftCtr → CftCtr) : State := s.setCtr { s.ctr with cft := g s.ctr.cft }
def State.countTic (s : State) (g : TicCtr → TicCtr) : State := s.setCtr { s.ctr with tic := g s.ctr.tic }
def State.countPort (s : State) (p : PortId) (g : PortCtr → PortCtr) : State :=
  s.setCtr { s.ctr with frt := s.ctr.frt.set p (g (s.ctr.frt.get p)) }
def State.countTxs (s : State) (g : TxsCtr → TxsCtr) : State := s.setCtr { s.ctr with txs := g s.ctr.txs }
def State.countSvr (s : State) (g : SvrCtr → SvrCtr) : State := s.setCtr { s.ctr with svr := g s.ctr.svr }
def State.countChan (s : State) (c : Fin 48) (g : ChanCtr → ChanCtr) : State :=
  s.countSgm fun k => { k with chans := vmodify k.chans c g }
def State.countBind (s : State) (g : Sig) (h : BindCtr → BindCtr) : State :=
  s.countSgm fun k => { k with binds := vmodify k.binds g.num h }
def State.countCorner (s : State) (c : Corner) (g : CornerCtr → CornerCtr) : State :=
  s.countRhc fun k => { k with corners := k.corners.set c (g (k.corners.get c)) }

end Sys2Proof.Machine
end

