-- ==== Sys2Proof/Machine/Flags.lean ====
section
/-! DEFINITION. What the manual derives from other state: signal values and qualities, the trace state and steering mode, the
brake ratios, targets and causes, the gates, the line levels. Each is a function of a state, read as it stands (R3). -/

namespace Sys2Proof.Machine

/-! ### Signals (R7, R19) -/

/-- A signal as the jobs see it. -/
structure Reading where
  value : Int
  quality : Quality
  deriving DecidableEq, Repr

/-- The run state of channel `c` if it is configured and supplies signal `g`; a binding treats any other channel as one in
NEVER (R7). -/
def Sgm.supplier (m : Sgm) (g : Sig) (c : Fin 48) : Option ChanRun :=
  match m.channels[c] with
  | some ch => if ch.cfg.sig = g then some ch.run else none
  | none => none

/-- The state of channel `c` as the binding of `g` sees it (R7). -/
def Sgm.chanState (m : Sgm) (g : Sig) (c : Fin 48) : ChanState :=
  match m.supplier g c with
  | some r => r.state
  | none => .never

/-- The channel a binding has selected (R6). -/
def BindCfg.selected (b : BindCfg) : Position → Fin 48
  | .primary => b.primary
  | .secondary => b.secondary.getD b.primary

def Sgm.binding (m : Sgm) (g : Sig) : Binding := m.bindings[g.num]

/-- The signal monitor acts on the binding of `g`: the signal is bound, and each channel that its binding names is configured and
supplies it (R7). -/
def Sgm.acts (m : Sgm) (g : Sig) : Bool :=
  match (m.binding g).cfg with
  | none => false
  | some b => (m.supplier g b.primary).isSome && b.secondary.all fun c => (m.supplier g c).isSome

/-- The value and quality of a signal, from its binding's selected channel and disagreement flag (R19); LOST while the signal
monitor does not act on the binding (R7; notes/assumptions/9.md). -/
def Sgm.reading (m : Sgm) (g : Sig) : Reading :=
  let b := m.binding g
  match b.cfg with
  | none => ⟨0, .lost⟩
  | some cfg =>
    match m.supplier g (cfg.selected b.run.selection) with
    | none => ⟨0, .lost⟩
    | some r =>
      let last := r.lastGood.getD 0
      let v := if b.run.disagree then b.run.held.getD last else last
      match m.acts g, r.state with
      | false, _ | true, .never | true, .stale => ⟨last, .lost⟩
      | true, .suspect => ⟨v, .held⟩
      | true, .fresh => if b.run.disagree then ⟨v, .held⟩ else ⟨v, .good⟩

/-- The standing value and quality of a signal. -/
def State.reading (s : State) (g : Sig) : Reading := s.sgm.reading g

/-- The standing value of a signal. -/
def State.value (s : State) (g : Sig) : Int := (s.reading g).value

/-- A signal's quality is LOST. -/
def State.isLost (s : State) (g : Sig) : Bool := (s.reading g).quality == .lost

/-- A signal's quality is GOOD. -/
def State.isGood (s : State) (g : Sig) : Bool := (s.reading g).quality == .good

/-- A signal event (R20): an arrival event or a quality event, with the value and quality it carries and the quality that stood
before it. -/
structure SigEvent where
  sig : Sig
  arrival : Bool
  value : Int
  quality : Quality
  was : Quality
  deriving DecidableEq, Repr

/-- The event brings the signal to LOST. -/
def SigEvent.loses (e : SigEvent) : Bool := e.was != .lost && e.quality == .lost

/-- The event ends a LOST quality. -/
def SigEvent.regains (e : SigEvent) : Bool := e.was == .lost && e.quality != .lost

/-- The event carries a change of quality, or is a quality event (R35). -/
def SigEvent.qualityChange (e : SigEvent) : Bool := !e.arrival || e.was != e.quality

/-- The number of the 27 signals whose quality is LOST (R20). -/
def State.lostCount (s : State) : Nat := (Sig.all.filter s.isLost).length

/-- VSP is GOOD and at most `v`. -/
def State.slow (s : State) (v : Int) : Bool := s.isGood .vsp && decide (s.value .vsp ≤ v)

/-- The drive state a door status value codes: the value modulo 8 (R9). -/
def driveState (v : Int) : Nat := (v.emod 8).toNat

/-- The presence flag of a door status value (R9). -/
def presence (v : Int) : Bool := decide (8 ≤ v)

def closedLocked : Nat := 0
def driveOpening : Nat := 2
def driveOpen : Nat := 3
def driveObstructed : Nat := 5
def driveVent : Nat := 6
def driveFault : Nat := 7

/-- Whether member `n` (0 for weight 1, 7 for weight 128) is present in a driver command record value, which is first taken
modulo 256 (R9). -/
def drqMember (v : Int) (n : Nat) : Bool := (v.emod 256).toNat.testBit n

/-- The weight position of a door's release bit (R9). -/
def Door.bit : Door → Nat
  | .d1 => 0 | .d2 => 1 | .d3 => 2 | .d4 => 3

/-- The six members of the driver command record that the door interlock compares (R110). -/
def driverRecOf (v : Int) : DriverRec :=
  ⟨⟨drqMember v 0, drqMember v 1, drqMember v 2, drqMember v 3⟩, drqMember v 4, drqMember v 6⟩

/-- The stop-brake switch of the driver command record (R9, R68). -/
def stopSwitch (v : Int) : Bool := drqMember v 5

/-- The rear-door override, read as it stands in the DRQ value (R110). -/
def State.rearOverride (s : State) : Bool := drqMember (s.value .drq) 7

/-- The position of the kneel and level switch that a value codes (R9). -/
def switchPosOf (v : Int) : SwitchPos :=
  if v = 1 then .kneel else if v = 2 then .raise else if v = 3 then .high else if v = 4 then .ride else .none

/-! ### Steering (R26, R34, R37, R39, R46) -/

/-- The trace states (R26), in the order of their encoding (R207). -/
inductive TraceState where
  | empty | filling | ready | suspended
  deriving DecidableEq, Repr

/-- The steering modes (R37), in the order of their encoding (R208). -/
inductive SteerMode where
  | centreHold | direct | follow
  deriving DecidableEq, Repr

/-- The trace is suspended: odo_now is absent, ODO is LOST, or the reverse flag is set (R26). -/
def State.traceSuspended (s : State) : Bool := s.rse.odoNow.isNone || s.isLost .odo || s.rse.reverse

/-- The behind-distance of a sample; an absent odo_now reads as 0 and is met only while the trace is suspended (R26). -/
def State.behind (s : State) (x : Sample) : Nat := distBehind (s.rse.odoNow.getD 0) x.stamp

/-- The trace state (R26). -/
def State.traceState (s : State) : TraceState :=
  if s.traceSuspended then .suspended
  else match s.rse.trace with
    | [] => .empty
    | x :: _ => if s.parN .lag ≤ s.behind x then .ready else .filling

/-- The steering mode (R37). -/
def State.steerMode (s : State) : SteerMode :=
  if !s.rse.holds.isEmpty then .centreHold
  else if s.traceState = .ready ∧ s.isLost .fwa = false then .follow
  else .direct

/-- A profile is in use: it is the target of a crossfade, or it is active and VALID while the mode is RUN or SERVICE (R39). -/
def State.profileInUse (s : State) (p : Fin 4) : Bool :=
  s.rse.xfade.target == some p || (s.rse.active == p && s.rse.profiles[p].valid && s.mode != .config)

/-- A range of angles. -/
structure Window where
  lo : Int
  hi : Int
  deriving DecidableEq, Repr

def Window.meet (a b : Window) : Window := ⟨max a.lo b.lo, min a.hi b.hi⟩

/-- The range a profile narrows the window to: its bounds if it is bounded (R46). -/
def Profile.narrow (p : Profile) (w : Window) : Window := if p.bounded then w.meet ⟨p.lo, p.hi⟩ else w

/-- The window of the steering target (R46). -/
def State.window (s : State) : Window :=
  if !s.rse.holds.isEmpty then ⟨0, 0⟩
  else
    let w := s.rse.profiles[s.rse.active].narrow ⟨-(s.par .mech), s.par .mech⟩
    match s.rse.xfade.target with
    | some t => s.rse.profiles[t].narrow w
    | none => w

/-! ### Brakes (R60 to R66, R75, R76) -/

/-- The bellows signal of an axle (R60). -/
def bellowsSig : Axle → Sig
  | .f => .blf | .m => .blm | .r => .blr

/-- The static weight parameter of an axle (R60). -/
def staticParam : Axle → ParamId
  | .f => .staticWF | .m => .staticWM | .r => .staticWR

/-- The static weights as they stand. -/
def State.statics (s : State) : PerAxle Nat := ⟨s.parN .staticWF, s.parN .staticWM, s.parN .staticWR⟩

/-- The weight latch is LATCHED: the kneel state is not RIDE (R61). -/
def State.weightsLatched (s : State) : Bool := s.rhc.kneel != .ride

/-- The sum-zero fallback of R60 is in force. -/
def State.sumZero (s : State) : Bool := s.bdu.weights.f + s.bdu.weights.m + s.bdu.weights.r == 0

/-- The weights the ratios are formed from (R60). Under the sum-zero fallback they are the static weights as they stand, the latch
FOLLOWING or LATCHED, so that a write of a static weight acts at the next read of a ratio or target (R61, R66;
notes/assumptions/28.md). -/
def State.usedWeights (s : State) : PerAxle Nat := if s.sumZero then s.statics else s.bdu.weights

/-- The ratio of an axle before the jackknife bias: floor, then clamped to [512, 1536] (R62). -/
def State.baseRatio (s : State) (a : Axle) : Nat :=
  let w := s.usedWeights
  min 1536 (max 512 (3072 * w.get a / (w.f + w.m + w.r)))

/-- The ratio of an axle after the clamp and the bias (R62, R63). -/
def State.ratio (s : State) (a : Axle) : Nat :=
  if a = .r ∧ s.rse.jackknife = true ∧ 0 < s.bdu.demand then
    min 1792 (max 512 (s.baseRatio .r + s.parN .jkBias))
  else s.baseRatio a

/-- The service target of an axle (R64). -/
def State.serviceTarget (s : State) (a : Axle) : Nat :=
  min (s.parN .pMax) (roundDiv (s.bdu.demand * s.ratio a : Nat) 1024).toNat

/-- The stop-brake states that command the floor and STOP_HOLD (R65, R66, R76). -/
def StopBrake.holding : StopBrake → Bool
  | .applying | .applied | .fault => true
  | _ => false

/-- The EMERGENCY candidate is offered on an axle (R65). -/
def State.emergencyOffered (s : State) (a : Axle) : Bool := a != .f && s.bdu.req.emergency

/-- The STOP candidate is offered on an axle (R65). -/
def State.stopOffered (s : State) (a : Axle) : Bool := a != .f && s.bdu.stopBrake.holding

/-- The pressure target of an axle: the largest offered (R65). -/
def State.brakeTarget (s : State) (a : Axle) : Nat :=
  if s.emergencyOffered a || s.stopOffered a then max (s.parN .stopP) (s.serviceTarget a) else s.serviceTarget a

/-- The cause of an axle's target: the first candidate in the order EMERGENCY, STOP, SERVICE that gives it (R65). -/
def State.brakeCause (s : State) (a : Axle) : Cause :=
  let t := s.brakeTarget a
  if t = 0 then .none
  else if s.emergencyOffered a = true ∧ s.parN .stopP = t then .emergency
  else if s.stopOffered a = true ∧ s.parN .stopP = t then .stop
  else .service

/-- The outstanding stop-brake expectation (section 3.6). -/
def StopBrake.outstanding : StopBrake → Option ExpKey
  | .applying => some .stopApply
  | .releasing => some .stopRelease
  | _ => none

/-- The apply threshold stop_p − stop_tol (R73, R75). -/
def State.applyThreshold (s : State) : Int := s.par .stopP - s.par .stopTol

/-- The condition of STOP_APPLY (R75). -/
def State.applyMet (s : State) : Bool :=
  decide (s.applyThreshold ≤ s.value .apm) && decide (s.applyThreshold ≤ s.value .apr) && !s.isLost .apm && !s.isLost .apr

/-- The condition of STOP_RELEASE (R75). -/
def State.releaseMet (s : State) : Bool :=
  decide (s.value .apm ≤ s.par .releaseTol) && decide (s.value .apr ≤ s.par .releaseTol) && !s.isLost .apm && !s.isLost .apr

/-! ### Ride height (R81, R85, R89, R94, R96) -/

/-- A levelling corner: not OFF, and its height not LOST (R81). -/
def State.levelling (s : State) (k : Corner) : Bool := (s.corner k).state != .off && !s.isLost (heightSig k)

/-- The error of a corner at a height (R81). -/
def CornerRec.error (r : CornerRec) (height : Int) : Int := r.target - height

/-- A height is in band for a corner: |e| at most `band` (R81, R83). -/
def CornerRec.within (r : CornerRec) (height band : Int) : Bool := decide ((r.error height).natAbs ≤ band)

/-- The kneel state forces levelling corners ACTIVE (R82, R84, R85, R96). -/
def KneelState.moving : KneelState → Bool
  | .lowering | .raising => true
  | _ => false

/-- No corner is a levelling corner (R96). -/
def State.noneLevelling (s : State) : Bool := allCorners.all fun k => !s.levelling k

/-- The states of the six corners. -/
def State.cornerStates (s : State) : List CornerState := allCorners.map fun k => (s.corner k).state

/-- The completion condition of LOWERING and of RAISING: every levelling corner is in band (R96). -/
def State.complete (s : State) : Bool :=
  allCorners.all fun k => !s.levelling k || (s.corner k).within (s.value (heightSig k)) (s.par .deadband)

/-- The condition of the freeze flag (R85). -/
def State.freezeWanted (s : State) : Bool :=
  !s.isLost .frz && s.value .frz == 1 && (s.isLost .vsp || decide (s.par .kneelSpeed < s.value .vsp))

/-- The target height of a corner under the level mode (R89). -/
def State.levelTarget (s : State) (m : LevelMode) (k : Corner) : Int :=
  match m with
  | .ride => 0
  | .high => s.par .highOffset
  | .kneel => s.rhc.offsets.get k

/-- The occupancy of the expectation queue is 3 or more (R131). -/
def State.almostFull (s : State) : Bool := decide (Config.almostFullFrom ≤ s.cft.length)

/-- The kneel gate (R94). -/
def State.kneelGate (s : State) : Bool :=
  s.slow (s.par .kneelSpeed) && s.bdu.stopBrake == .applied && s.rhc.airOk
    && decide (s.parN .kneelReserve ≤ s.rhc.airEstimate) && !s.almostFull
    && (s.levelling .fr || s.levelling .mr || s.levelling .rr)

/-! ### Doors (R109, R113) -/

/-- Some door is not LOCKED (R109). -/
def State.someUnlocked (s : State) : Bool := s.dic.doors.any fun r => r.state != .locked

/-- Some door of section REAR is not LOCKED (R109). -/
def State.someRearUnlocked (s : State) : Bool :=
  allDoors.any fun d => (s.dic.table.get d).sect == .rear && (s.door d).state != .locked

/-- Some door is in EMERGENCY (R109). -/
def State.someEmergency (s : State) : Bool := s.dic.doors.any fun r => r.state == .emergency

/-- Some door has its status-unknown flag set (R109). -/
def State.someStatusUnknown (s : State) : Bool := s.dic.doors.any fun r => r.statusUnknown

/-- RSA is GOOD and within centre_band (R52, R113). -/
def State.axleCentred (s : State) : Bool := s.isGood .rsa && decide ((s.value .rsa).natAbs ≤ s.par .centreBand)

/-- The release gate of a door (R113). -/
def State.releaseGate (s : State) (d : Door) : Bool :=
  s.slow (s.par .releaseSpeed) && s.bdu.stopBrake == .applied
    && ((s.dic.table.get d).sect == .front || s.axleCentred || s.rearOverride)
    && s.rhc.kneel != .raising && !s.almostFull

/-- The four door actions (R108). -/
def State.doorActions (s : State) : PerDoor DoorAction :=
  ⟨s.dic.doors.d1.action, s.dic.doors.d2.action, s.dic.doors.d3.action, s.dic.doors.d4.action⟩

/-! ### Traction (R143 to R147) -/

/-- A source's record. -/
def State.source (s : State) (k : Source) : SourceState := s.tic.sources[k.idx]

/-- The enable mask holds a maskable source; every other inhibit source takes part whatever the mask (R145). -/
def State.takesPart (s : State) : Source → Bool
  | .doorOpen | .emergency | .stopBrake | .kneel | .mode => true
  | .doorStatusLost => (s.parN .enableMask).testBit 0
  | .airLow => (s.parN .enableMask).testBit 1
  | .speedLost => (s.parN .enableMask).testBit 2
  | .mgmt => (s.parN .enableMask).testBit 3
  | .jackknife | .steerFault | .highLevel => false

/-- A source is effective while it is ACTIVE and takes part in the combined inhibit (R145). -/
def State.effective (s : State) (k : Source) : Bool := (s.source k).active && s.takesPart k

/-- Some inhibit source is effective (section 7.2). -/
def State.anyEffective (s : State) : Bool := allSources.any s.effective

/-- The inhibit is in force in INHIBITED and GAP (R146). -/
def State.inhibitInForce (s : State) : Bool := s.tic.combined != .permitted

/-- The limit is in force while any limit source is ACTIVE (R144). -/
def State.limitInForce (s : State) : Bool :=
  (s.source .jackknife).active || (s.source .steerFault).active || (s.source .highLevel).active

/-! ### Standstill (R52, R193, R204) -/

/-- VSP is GOOD and at most 100. -/
def State.standstill (s : State) : Bool := s.slow 100

end Sys2Proof.Machine
end

