-- ==== Sys2Proof/Machine/Ports.lean ====
section
/-! DEFINITION. The transmitters of the two ports (chapter 8): placing a frame into a transmit source, the transmitter's choice,
the end of a transmission, the DOWN state and its retry. -/

namespace Sys2Proof.Machine

/-- The port's record. -/
def State.port (s : State) (p : PortId) : Port := s.ports.get p

/-- The transmitter becomes BUSY with a frame (R169). -/
def startTx (p : PortId) (src : TxSource) (f : Frame) (s : State) : State :=
  s.setPort p { s.port p with tx := some ⟨f, src, false⟩ }

/-- The first source in the order of R169 that holds a frame, with the frame and the state it has left. -/
def takeFromSource (p : PortId) (s : State) : Option (TxSource × Frame × State) :=
  let fromPort : Option (TxSource × Frame × State) :=
    match (s.port p).scheduled with
    | some f => some (.scheduled, f, s.setPort p { s.port p with scheduled := none })
    | none =>
      match (s.port p).forward with
      | f :: rest => some (.forward, f, s.setPort p { s.port p with forward := rest })
      | [] => none
  match p with
  | .chassis =>
    match s.urgent with
    | f :: rest => some (.urgent, f, s.setUrgent rest)
    | [] => fromPort
  | .cab =>
    match s.svr.response with
    | some f => some (.response, f, s.setSvr { s.svr with response := none })
    | none => fromPort

/-- The transmitter of a port that is UP chooses a frame whenever it is IDLE and a source holds one (R169). -/
def chooseTx (p : PortId) (s : State) : State :=
  if (s.port p).up = true ∧ (s.port p).tx = none then
    match takeFromSource p s with
    | some (src, f, s1) => startTx p src f s1
    | none => s
  else s

/-- A frame appended to, or put into, one of a port's transmit sources (R168). -/
def putInSource (p : PortId) (src : TxSource) (f : Frame) (s : State) : State :=
  match src with
  | .urgent => s.setUrgent (s.urgent ++ [f])
  | .response => s.setSvr { s.svr with response := some f }
  | .scheduled => s.setPort p { s.port p with scheduled := some f }
  | .forward => s.setPort p { s.port p with forward := (s.port p).forward ++ [f] }

/-- A frame placed into a transmit source: it waits there on a port that is UP (R168, R169); on a port that is DOWN it is taken
as the retry when the port is retry-ready (R172) and is abandoned at its placement otherwise (R171). -/
def placeFrame (p : PortId) (src : TxSource) (f : Frame) (s : State) : State :=
  if (s.port p).up then chooseTx p (putInSource p src f s)
  else if (s.port p).retryReady then startTx p src f (s.setPort p { s.port p with retryReady := false })
  else s.countPort p fun k => { k with txAbandoned := bump32 k.txAbandoned }

/-- The frames standing in a port's transmit sources (R171). -/
def State.standing (s : State) (p : PortId) : Nat :=
  (s.port p).forward.length + (if (s.port p).scheduled.isSome then 1 else 0)
    + match p with
      | .chassis => s.urgent.length
      | .cab => if s.svr.response.isSome then 1 else 0

/-- Every transmit source of a port emptied. -/
def emptySources (p : PortId) (s : State) : State :=
  let s1 := s.setPort p { s.port p with forward := [], scheduled := none }
  match p with
  | .chassis => s1.setUrgent []
  | .cab => s1.setSvr { s1.svr with response := none }

/-- Entry to DOWN: the frames standing in the sources are abandoned and counted, and the recovery timer starts (R171). -/
def enterDown (p : PortId) (s : State) : State :=
  let s1 := emptySources p (s.countPort p fun k => { k with txAbandoned := bump32By k.txAbandoned (s.standing p) })
  s1.setPort p { s1.port p with up := false, retryReady := false, recovery := s1.timer Config.portRecoverMs }

/-- The outcome of a transmission counted at its port (R165, R170). -/
def countOutcome (p : PortId) (o : TxOutcome) (s : State) : State :=
  match o with
  | .sent => s.countPort p fun k => { k with txSent := bump32 k.txSent }
  | .abandoned => s.countPort p fun k => { k with txAbandoned := bump32 k.txAbandoned }

/-- What the outcome of a transmission does to the port state, the consecutive-abandon count and the timer (R170 to R172). -/
def settleOutcome (p : PortId) (o : TxOutcome) (s : State) : State :=
  let q := s.port p
  match o with
  | .sent => s.setPort p { q with abandons := 0, up := true }
  | .abandoned =>
    let s1 := s.setPort p { q with abandons := min Config.downAfter (q.abandons + 1) }
    if q.up then if Config.downAfter ≤ q.abandons + 1 then enterDown p s1 else s1
    else s1.setPort p { s1.port p with recovery := s1.timer Config.portRecoverMs }

/-- The end of a port's transmission (R170). A transmission that a warm restart found under way changes neither the port state
nor the count (R174). With the transmitter IDLE no transmission ends. -/
def endTransmission (p : PortId) (o : TxOutcome) (s : State) : State :=
  match (s.port p).tx with
  | none => s
  | some t =>
    let s1 := countOutcome p o (s.setPort p { s.port p with tx := none })
    chooseTx p (if t.detached then s1 else settleOutcome p o s1)

/-- The recovery timer's expiry: the port becomes retry-ready (R172). -/
def recoveryExpiry (p : PortId) (s : State) : State :=
  if (s.port p).recovery.ended s.now then s.setPort p { s.port p with recovery := .stopped, retryReady := true } else s

/-- Reception of a frame (R156). -/
def receiveFrame (p : PortId) (f : Frame) (s : State) : State :=
  let s1 := s.countPort p fun k => { k with received := bump32 k.received }
  if (s.port p).receive.length < Config.queueDepth then
    s1.setPort p { s1.port p with receive := (s1.port p).receive ++ [f] }
  else s1.countPort p fun k => { k with dropped := bump32 k.dropped, rxOverflow := bump32 k.rxOverflow }

/-- The other port (R162). -/
def otherPort : PortId → PortId
  | .cab => .chassis
  | .chassis => .cab

/-- A frame that arrived on `p` placed in the other port's forward queue, with its disposition counted at `p` (R164, R165). -/
def forwardFrame (p : PortId) (f : Frame) (s : State) : State :=
  if (s.port (otherPort p)).forward.length < Config.queueDepth then
    placeFrame (otherPort p) .forward f (s.countPort p fun k => { k with forwarded := bump32 k.forwarded })
  else s.countPort p fun k => { k with dropped := bump32 k.dropped, fwdOverflow := bump32 k.fwdOverflow }

end Sys2Proof.Machine
end

