-- ==== Sys2Proof/Machine/Frames.lean ====
section
/-! DEFINITION. The frames the part generates (chapters 9 and 11): their payloads, the alive and check bytes, and the urgent path
of DCM and BAC. -/

namespace Sys2Proof.Machine

/-- The data length of a kind (R208). -/
def GenKind.length : GenKind → Nat
  | .bac => 12
  | .gst => 16
  | _ => 8

/-- A payload: the fields, bytes of 0 up to the alive byte, the alive byte in the last place but one, and the check byte last
(R180, R208). -/
def payloadOf (k : GenKind) (fields : List Byte) (alive : Alive) : List Byte :=
  let q := padTo (k.length - 2) fields ++ [alive.setWidth 8]
  q ++ [checkFor q]

/-- The fields of RSC (R181, R208). -/
def State.rscFields (s : State) : List Byte :=
  i2 s.rse.issued ++ b1 s.steerMode.ctorIdx ++ b1 (setWeight s.rse.holds.toList) ++ flag s.rse.fault

/-- The fields of BAC (R182, R208). -/
def State.bacFields (s : State) : List Byte :=
  b2 (s.brakeTarget .f) ++ b2 (s.brakeTarget .m) ++ b2 (s.brakeTarget .r)
    ++ b1 (s.brakeCause .f).ctorIdx ++ b1 (s.brakeCause .m).ctorIdx ++ b1 (s.brakeCause .r).ctorIdx
    ++ b1 (setWeight [s.bdu.stopBrake.holding, s.bdu.backup])

/-- The fields of DCM (R182, R208). -/
def State.dcmFields (s : State) : List Byte :=
  s.doorActions.toList.flatMap fun a => b1 a.ctorIdx

/-- The ACTIVE inhibit sources, in the order of R143. -/
def State.inhibitSet (s : State) : List Bool := (allSources.take 9).map fun k => (s.source k).active

/-- The ACTIVE limit sources, in the order of R144. -/
def State.limitSet (s : State) : List Bool := (allSources.drop 9).map fun k => (s.source k).active

/-- The fields of GST: the status record as it stands (R184, R208). -/
def State.gstFields (s : State) : List Byte :=
  b1 s.mode.ctorIdx ++ b1 s.tic.combined.ctorIdx ++ b2 (setWeight s.inhibitSet) ++ b1 (setWeight s.limitSet)
    ++ s.dic.doors.toList.flatMap (fun r => b1 r.state.ctorIdx)
    ++ b1 s.bdu.stopBrake.ctorIdx ++ b1 s.rhc.kneel.ctorIdx ++ b1 s.steerMode.ctorIdx
    ++ b1 (setWeight [s.bdu.drag, s.rhc.fault, !s.rhc.airOk, s.rse.fault, s.rse.jackknife, s.almostFull])
    ++ b1 s.lostCount

/-- A frame of a kind with the fields read, the identifier of an entry, and the kind's alive counter, which then increases by 1
modulo 16 (R180). -/
def buildFrame (e : SchedEntry) (fields : List Byte) (s : State) : Frame × State :=
  (⟨e.idKind, e.ident, payloadOf e.kind fields s.txs.alive[e.kind.idx]⟩,
   s.setTxs { s.txs with alive := vmodify s.txs.alive e.kind.idx (· + 1) })

/-- The lowest-numbered configured schedule entry of a kind (R185). -/
def State.entryOf (s : State) (k : GenKind) : Option SchedEntry :=
  s.txs.table.toList.findSome? fun x => match x with
    | some e => if e.kind = k then some e else none
    | none => none

/-- The urgent-path counters of a kind changed (R187). -/
def countUrgent (k : GenKind) (g : UrgentCtr → UrgentCtr) (s : State) : State :=
  s.countTxs fun c => if k = .bac then { c with urgentBac := g c.urgentBac } else { c with urgentDcm := g c.urgentDcm }

/-- An urgent request, served at the moment it is made (R185). -/
def urgentRequest (k : GenKind) (fields : List Byte) (s : State) : State :=
  if s.mode = .config then s
  else
    match s.entryOf k with
    | none => countUrgent k (fun c => { c with noEntry := bump c.noEntry }) s
    | some e =>
      if Config.urgentDepth ≤ s.urgent.length then countUrgent k (fun c => { c with refusals := bump c.refusals }) s
      else
        let (f, s1) := buildFrame e fields s
        countUrgent k (fun c => { c with builds := bump c.builds }) (placeFrame .chassis .urgent f s1)

/-- The urgent BAC that an entry to APPLYING asks for (R70, R185). -/
def urgentBac (s : State) : State := urgentRequest .bac s.bacFields s

/-- The urgent DCM that a change of door actions asks for (R108, R185). -/
def urgentDcm (s : State) : State := urgentRequest .dcm s.dcmFields s

end Sys2Proof.Machine
end

