-- ==== Sys2Proof/Machine/Traction.lean ====
section
/-! DEFINITION. The traction inhibit combiner (chapter 7): the changes of its sources, the combined state and TRACTION_PERMIT,
and the rewriting of torque frames. -/

namespace Sys2Proof.Machine

/-- The combined state entered, with TRACTION_PERMIT high in PERMITTED and low otherwise (R147), and the release-gap timer as
given. -/
def State.enterCombined (s : State) (c : Combined) (t : Timer) : State :=
  (s.setTic { s.tic with combined := c, gapTimer := t }).setLines { s.lines with tractionPermit := c == .permitted }

/-- Entry to PERMITTED, counted as a permit onset (R146, R153). -/
def State.enterPermitted (s : State) : State :=
  (s.enterCombined .permitted .stopped).countTic fun k => { k with permitOnsets := bump k.permitOnsets }

/-- The combined state changes as the effective sources stand (R146). -/
def reformCombined (s : State) : State :=
  match s.tic.combined, s.anyEffective with
  | .permitted, true =>
    (s.enterCombined .inhibited .stopped).countTic fun k => { k with inhibitOnsets := bump k.inhibitOnsets }
  | .gap, true => s.enterCombined .inhibited .stopped
  | .inhibited, false =>
    if s.parN .releaseGap = 0 then s.enterPermitted else s.enterCombined .gap (s.timer (s.parN .releaseGap))
  | _, _ => s

/-- A source's record and its counters at its change to ACTIVE or INACTIVE (R143, R153). -/
def changeSource (k : Source) (b : Bool) (s : State) : State :=
  if b then
    (s.setTic { s.tic with sources := s.tic.sources.set k.idx ⟨true, s.now⟩ }).countTic fun c =>
      { c with sources := vmodify c.sources k.idx fun x => { x with activations := bump x.activations } }
  else
    (s.setTic { s.tic with sources := vmodify s.tic.sources k.idx fun x => { x with active := false } }).countTic fun c =>
      { c with sources := vmodify c.sources k.idx fun x =>
          { x with activeTime := bump32By x.activeTime (s.now - (s.source k).since) } }

/-- The report that begins (`true`) or ends (`false`) the condition of a source; a report that leaves the condition as it stood
changes nothing (R143, R144). -/
def reportSource (k : Source) (b : Bool) (s : State) : State :=
  if (s.source k).active = b then s else reformCombined (changeSource k b s)

/-! ### Torque rewriting (section 7.3) -/

/-- The torque field of a frame: two bytes, signed (R149). -/
def torqueOf (p : List Byte) (at' : Nat) : Int := signedOf 16 (word16At p at')

/-- The torque written for a torque read (R150). -/
def State.torqueWritten (s : State) (t : Int) : Int :=
  if s.inhibitInForce then min t 0 else if s.limitInForce then min t (s.par .torqueCap) else t

/-- A payload with a torque written in its field and its check byte set (R150). -/
def writeTorque (p : List Byte) (torqueAt checkAt : Nat) (t : Int) : List Byte :=
  let w := (BitVec.ofInt 16 t).toNat
  let q := ((p.set torqueAt (BitVec.ofNat 8 (w / 256))).set (torqueAt + 1) (BitVec.ofNat 8 w)).set checkAt 0
  q.set checkAt (checkFor q)

/-- The outcome of the combiner's tests of a frame (R149). -/
inductive TorqueTest where
  | tooShort | checkWrong | passes
  deriving DecidableEq, Repr

/-- The tests of R149, in its order. -/
def torqueTest (p : List Byte) (torqueAt checkAt : Nat) : TorqueTest :=
  if p.length < torqueAt + 2 ∨ p.length < checkAt + 1 then .tooShort
  else if sumBytes p ≠ 255 then .checkWrong
  else .passes

/-- The combiner takes a frame: dropped and counted (no frame), or rewritten from the combined state and the limit as they stand
and counted (R149, R150). -/
def rewriteTorque (f : Frame) (torqueAt checkAt : Nat) (s : State) : Option Frame × State :=
  match torqueTest f.payload torqueAt checkAt with
  | .tooShort => (none, s.countTic fun k => { k with shortFrames := bump k.shortFrames })
  | .checkWrong => (none, s.countTic fun k => { k with checkDrops := bump k.checkDrops })
  | .passes =>
    let t := torqueOf f.payload torqueAt
    let w := s.torqueWritten t
    let s1 := s.countTic fun k => { k with rewritten := bump k.rewritten }
    let s2 :=
      if w = t then s1
      else if s.inhibitInForce then s1.countTic fun k => { k with inhibitCuts := bump k.inhibitCuts }
      else s1.countTic fun k => { k with limitCaps := bump k.limitCaps }
    (some { f with payload := writeTorque f.payload torqueAt checkAt w }, s2)

end Sys2Proof.Machine
end

