-- ==== Sys2Proof/Machine/Steering.lean ====
section
/-! DEFINITION. The rear-axle steering engine (chapter 2): the trace, the hold reasons, the steering target, the issued
setpoint, tracking supervision and the jackknife warning. -/

namespace Sys2Proof.Machine

/-! ### Hold reasons and the window (R34 to R36, R46) -/

/-- A member of the hold-reason set added or removed. A set that becomes non-empty makes the target 0 (R34, R36). -/
def setHold (k : HoldReason) (b : Bool) (s : State) : State :=
  let h := s.rse.holds.put k b
  s.setRse { s.rse with
    holds := h
    target := if s.rse.holds.isEmpty && !h.isEmpty then 0 else s.rse.target }

/-- INPUT is a member exactly when FWA, ART or VSP is LOST at the evaluation (R35). -/
def evaluateInput (s : State) : State := setHold .input (s.isLost .fwa || s.isLost .art || s.isLost .vsp) s

/-- The steering target clamped to the window as it stands (R46). -/
def clampTarget (s : State) : State := s.setRse { s.rse with target := clamp s.window.lo s.window.hi s.rse.target }

/-! ### The trace (R27 to R33) -/

/-- Every sample removed (R33). -/
def clearTrace (s : State) : State := s.setRse { s.rse with trace := [] }

/-- The trace after ageing: the head is removed while the second-oldest sample lies at or beyond the lag (R32). -/
def agedTrace (lag : Nat) (odo : Dist) : List Sample → List Sample
  | [] => []
  | x :: t =>
    match t with
    | [] => [x]
    | y :: _ => if lag ≤ distBehind odo y.stamp then agedTrace lag odo t else x :: t

/-- The trace after the expiry step for an advance of `a` (R28). -/
def unexpired (odo : Dist) (a : Nat) (t : List Sample) : List Sample :=
  t.dropWhile fun x => decide (65536 ≤ distBehind odo x.stamp + a)

/-- An ODO arrival that ends no LOST quality (R27, R28). -/
def moveOdo (v : Dist) (s : State) : State :=
  match s.rse.odoNow with
  | none => s.setRse { s.rse with trace := [], odoNow := some v }
  | some o =>
    if s.rse.reverse then s.setRse { s.rse with odoNow := some v }
    else
      let a := distBehind v o
      if a = 0 then s
      else if s.parN .odoMaxStep < a then
        (s.setRse { s.rse with trace := [], odoNow := some v }).countRse fun k =>
          { k with discontinuities := bump k.discontinuities }
      else
        let t := unexpired o a s.rse.trace
        (s.setRse { s.rse with trace := t, odoNow := some v }).countRse fun k =>
          { k with expiries := bumpBy k.expiries (s.rse.trace.length - t.length) }

/-- An ODO event. The event that ends LOST clears the trace and sets odo_now; LOST suspends the trace, which `traceSuspended`
reads from the signal (R27, R29). -/
def rseOdo (e : SigEvent) (s : State) : State :=
  if e.regains then s.setRse { s.rse with trace := [], odoNow := some (BitVec.ofInt 16 e.value) }
  else if e.arrival then moveOdo (BitVec.ofInt 16 e.value) s
  else s

/-- A GEAR event (R30): the reverse flag follows the value; its onset clears the trace, and the hold reason follows the flag. -/
def rseGear (e : SigEvent) (s : State) : State :=
  let r := e.value == 2
  if r = s.rse.reverse then s
  else setHold .reverse r (s.setRse { s.rse with reverse := r, trace := if r then [] else s.rse.trace })

/-- The append of R31, followed by the ageing of R32. -/
def appendSample (angle : Int) (s : State) : State :=
  match s.rse.odoNow with
  | none => s
  | some o =>
    if s.traceSuspended then s
    else
      let spaced := match s.rse.trace.getLast? with
        | none => true
        | some x => decide (s.parN .spacing ≤ distBehind o x.stamp)
      if spaced then
        let full := decide (Config.traceDepth ≤ s.rse.trace.length)
        let t := (if full then s.rse.trace.tail else s.rse.trace) ++ [⟨o, angle⟩]
        let s1 := s.setRse { s.rse with trace := agedTrace (s.parN .lag) o t }
        if full then s1.countRse fun k => { k with overflows := bump k.overflows } else s1
      else s

/-! ### The steering target (R41 to R46) -/

/-- The newest sample at or beyond the lag, and the sample that follows it (R42). -/
def lagPair (lag : Nat) (odo : Dist) : List Sample → Option (Sample × Option Sample)
  | [] => none
  | x :: t =>
    if lag ≤ distBehind odo x.stamp then
      match lagPair lag odo t with
      | some r => some r
      | none => some (x, t.head?)
    else none

/-- The follow angle read from the trace (R42). -/
def followAngle (lag : Nat) (odo : Dist) (t : List Sample) : Int :=
  match lagPair lag odo t with
  | none => 0
  | some (o, none) => o.angle
  | some (o, some n) =>
    o.angle + roundDiv ((n.angle - o.angle) * (distBehind odo o.stamp - lag : Int))
      (distBehind odo o.stamp - distBehind odo n.stamp)

/-- Breakpoint `i` of a profile. -/
def Profile.point (p : Profile) (i : Nat) : Breakpoint := p.points.toList.getD i ⟨0, 0, 0⟩

/-- The segment a speed falls in, searched downward from segment `i` (R43). -/
def Profile.segment (p : Profile) (v : Int) : Nat → Nat
  | 0 => 0
  | i + 1 => if (p.point (i + 1)).speed ≤ v then i + 1 else p.segment v i

/-- The gain of a profile at a speed (R43). -/
def Profile.gainAt (p : Profile) (v : Int) : Int :=
  if v ≤ (p.point 0).speed then (p.point 0).gain
  else if (p.point (p.n - 1)).speed ≤ v then (p.point (p.n - 1)).gain
  else
    let i := p.segment v (p.n - 2)
    let a := p.point i
    let b := p.point (i + 1)
    clamp (min a.gain b.gain) (max a.gain b.gain) (a.gain + roundDiv (a.delta * (v - a.speed)) 4096)

/-- The product of the follow angle with a profile's gain at a speed (R44). -/
def Profile.product (p : Profile) (angle v : Int) : Int := roundDiv (angle * p.gainAt v) 16384

/-- The follow angle of an FWA arrival (R42). -/
def State.followAngle (s : State) (fwa : Int) : Int :=
  if s.steerMode = .follow then Machine.followAngle (s.parN .lag) (s.rse.odoNow.getD 0) s.rse.trace else fwa

/-- The output of a computation and the crossfade record and active profile after it (R44, R45). -/
def State.crossfaded (s : State) (angle v : Int) : Int × State :=
  let told := s.rse.profiles[s.rse.active].product angle v
  match s.rse.xfade.target with
  | none => (told, s)
  | some t =>
    let alpha := min 255 (s.rse.xfade.alpha + s.rse.xfade.step)
    let tnew := s.rse.profiles[t].product angle v
    if alpha = 255 then
      (tnew,
       (s.setRse { s.rse with active := t, xfade := { s.rse.xfade with target := none, alpha := 255 } }).countRse fun k =>
        { k with crossfades := bump k.crossfades })
    else
      (roundDiv (tnew * alpha + told * (255 - alpha)) 255,
       s.setRse { s.rse with xfade := { s.rse.xfade with alpha := alpha } })

/-- A target computation (R41): the output clamped to the window as it stands after the crossfade step (R46). -/
def computeTarget (fwa : Int) (s : State) : State :=
  let (out, s1) := s.crossfaded (s.followAngle fwa) (s.value .vsp)
  s1.setRse { s1.rse with target := clamp s1.window.lo s1.window.hi out }

/-- The engine's work for an FWA arrival, in the order of R41. -/
def fwaArrival (fwa : Int) (s : State) : State :=
  let s1 := appendSample fwa s
  if s1.steerMode = .centreHold then s1 else computeTarget fwa s1

/-- An FWA event: the work of R41 at an arrival, then the evaluation of INPUT at a change of quality (R35;
notes/assumptions/11.md). -/
def rseFwa (e : SigEvent) (s : State) : State :=
  let s1 := if e.arrival then fwaArrival e.value s else s
  if e.qualityChange then evaluateInput s1 else s1

/-! ### The issued setpoint (R47, R181) -/

/-- The issued setpoint steps towards the target by at most slew (R47). -/
def stepSetpoint (s : State) : State :=
  s.setRse { s.rse with
    issued := s.rse.issued + clamp (-(s.par .slew)) (s.par .slew) (s.rse.target - s.rse.issued) }

/-! ### Tracking supervision and the steer fault (R50 to R52) -/

/-- The steer fault latches (R51). -/
def latchSteerFault (s : State) : State :=
  reportSource .steerFault true
    (setHold .fault true
      ((s.setRse { s.rse with fault := true, mismatchRun := 0 }).countRse fun k =>
        { k with steerFaults := bump k.steerFaults }))

/-- The steer fault is cleared (R52, R58). -/
def clearSteerFault (s : State) : State :=
  reportSource .steerFault false (setHold .fault false (s.setRse { s.rse with fault := false, mismatchRun := 0 }))

/-- The comparison of an RSA arrival with the issued setpoint while the fault is clear (R50). -/
def compareRsa (v : Int) (s : State) : State :=
  if s.par .trackTol < ((v - s.rse.issued).natAbs : Int) then
    if s.parN .trackCount ≤ s.rse.mismatchRun + 1 then latchSteerFault s
    else s.setRse { s.rse with mismatchRun := s.rse.mismatchRun + 1 }
  else s.setRse { s.rse with mismatchRun := 0 }

/-- An RSA event (R50, R51). -/
def rseRsa (e : SigEvent) (s : State) : State :=
  if s.rse.fault then s
  else if e.loses then latchSteerFault s
  else if e.arrival then compareRsa e.value s
  else s

/-! ### The jackknife warning (R53) -/

/-- The warning's condition (R53). -/
def State.jackknifed (s : State) : Bool :=
  !s.isLost .art && !s.isLost .vsp && decide (s.par .jkAngle < ((s.value .art).natAbs : Int))
    && decide (s.par .jkSpeed < s.value .vsp)

/-- The warning is evaluated; a change is counted at its onset and reported to the combiner (R53). The brake unit reads the
warning as it stands (R63). -/
def evaluateJackknife (s : State) : State :=
  let b := s.jackknifed
  if b = s.rse.jackknife then s
  else
    let s1 := s.setRse { s.rse with jackknife := b }
    reportSource .jackknife b
      (if b then s1.countRse fun k => { k with jackknifeOnsets := bump k.jackknifeOnsets } else s1)

/-- An ART or VSP event: INPUT at a change of quality (R35), and the jackknife warning (R53). -/
def rseArtVsp (e : SigEvent) (s : State) : State :=
  evaluateJackknife (if e.qualityChange then evaluateInput s else s)

/-- The steering engine's handling of a signal event. -/
def rseEvent (e : SigEvent) (s : State) : State :=
  match e.sig with
  | .fwa => rseFwa e s
  | .art | .vsp => rseArtVsp e s
  | .odo => rseOdo e s
  | .gear => rseGear e s
  | .rsa => rseRsa e s
  | _ => s

end Sys2Proof.Machine
end

