-- ==== Sys2Proof/Machine/Reports.lean ====
section
/-! DEFINITION. The changes of state that blocks report to one another and that end there: a door's release and its FAULT, the
stop-brake state with STOP_HOLD, the corners, the level mode, the entry to LOWERING and to KNELT, the air state. The changes
that go on to add or remove a stop-brake requester stand above them, in Brake.lean, Level.lean and Doors.lean. -/

namespace Sys2Proof.Machine

/-! ### Doors: release, and a DOOR_LOCK that failed (R113, R119, R122) -/

/-- A PREPARING door becomes RELEASED (R113). No condition of R109 changes, since the door was not LOCKED before either. -/
def releaseDoor (d : Door) (s : State) : State :=
  let byOverride := (s.dic.table.get d).sect == .rear && !s.axleCentred
  (s.putDoor d { s.door d with state := .released, action := .permit, relPending := false, prep := .stopped }).countDoor d
    fun k => { k with
      releases := bump k.releases
      overrideReleases := if byOverride then bump k.overrideReleases else k.overrideReleases }

/-- The release gate of a door evaluated: a PREPARING door whose gate holds is released (R113). -/
def evalGate (d : Door) (s : State) : State :=
  if (s.door d).state = .preparing ∧ s.releaseGate d = true then releaseDoor d s else s

/-- The release gate of each PREPARING door evaluated, in the order 1 to 4 (R113). -/
def evalGates (s : State) : State := allDoors.foldl (fun t d => evalGate d t) s

/-- A door is in CLOSING after the withdrawal (R122). -/
def DoorRec.withdrawn (r : DoorRec) : Bool := r.state == .closing && r.action == .withdraw

/-- A DOOR_LOCK that timed out or was evicted: a door in CLOSING after the withdrawal becomes FAULT, the action staying WITHDRAW
(R119, R122). No condition of R109 changes. -/
def doorLockFailed (d : Door) (s : State) : State :=
  if (s.door d).withdrawn then
    (s.putDoor d { s.door d with state := .fault, faultFlag := true, dwell := .stopped }).countDoor d fun k =>
      { k with faults := bump k.faults }
  else s

/-! ### The stop-brake state (R70, R76) -/

/-- The stop-brake state set, STOP_HOLD following it (R76), and the change reported to the combiner (R70, R143). -/
def setStopBrake (b : StopBrake) (s : State) : State :=
  reportSource .stopBrake (b != .released)
    ((s.setBdu { s.bdu with stopBrake := b }).setLines { s.lines with stopHold := b.holding })

/-- A STOP_APPLY or STOP_RELEASE that timed out or was evicted, in the state that placed it (R72, R74, R75). -/
def stopBrakeFailed (k : ExpKey) (s : State) : State :=
  match k, s.bdu.stopBrake with
  | .stopApply, .applying =>
    (setStopBrake .fault s).countBdu fun c => { c with applyFaults := bump c.applyFaults }
  | .stopRelease, .releasing =>
    let s1 := setStopBrake .released s
    (s1.setBdu { s1.bdu with drag := true }).countBdu fun c => { c with drags := bump c.drags }
  | _, _ => s

/-- The report of a timeout or an eviction, at the placer (R134, R137). -/
def reportFailed (k : ExpKey) (s : State) : State :=
  match k with
  | .doorLock d => doorLockFailed d s
  | .stopApply | .stopRelease => stopBrakeFailed k s

/-! ### Corners (R82 to R85, R96) -/

/-- A corner that goes WAKE with its timer started. With wake_ms at 0 the timer expires as it starts and the corner goes ACTIVE
at once (R83). -/
def State.waking (s : State) (r : CornerRec) : CornerRec :=
  if s.parN .wakeMs = 0 then { r with state := .active, quiet := 0, wake := .stopped, pulse := none }
  else { r with state := .wake, wake := s.timer (s.parN .wakeMs), pulse := none }

/-- The fresh pulse of an out-of-band sample with error `e` (R82). -/
def State.freshPulse (s : State) (e : Int) : Pulse :=
  ⟨if 0 < e then .raise else .lower,
   (clamp (s.par .pulseMin) (s.par .pulseMax) (roundDiv ((e.natAbs : Int) * s.par .pulseGain) 4)).toNat⟩

/-- A sample of a corner in ACTIVE (R82). -/
def State.activeSample (s : State) (r : CornerRec) (height : Int) : CornerRec :=
  if r.within height (s.par .deadband) then
    if s.rhc.kneel.moving then { r with pulse := none, quiet := 0 }
    else if s.parN .quietCount ≤ r.quiet + 1 then { r with pulse := none, quiet := r.quiet + 1, state := .quiet }
    else { r with pulse := none, quiet := r.quiet + 1 }
  else { r with quiet := 0, pulse := some (s.freshPulse (r.error height)) }

/-- A corner judges a height sample by its state (R82, R83, R85). -/
def judgeSample (k : Corner) (height : Int) (s : State) : State :=
  let r := s.corner k
  match r.state with
  | .active => s.putCorner k (s.activeSample r height)
  | .quiet => if r.within height (s.par .wakeBand) then s else s.putCorner k (s.waking r)
  | .wake =>
    if r.within height (s.par .deadband) then
      (s.putCorner k { r with state := .quiet, wake := .stopped }).countCorner k fun c =>
        { c with excursions := bump c.excursions }
    else s
  | .frozen | .off => s

/-- A corner that goes FROZEN (R85). -/
def CornerRec.freeze (r : CornerRec) : CornerRec := { r with state := .frozen, wake := .stopped, quiet := 0, pulse := none }

/-- Every levelling corner forced ACTIVE; one already ACTIVE keeps its pending pulse (R96). -/
def forceActive (s : State) : State :=
  s.setRhc { s.rhc with
    corners := PerCorner.ofFn fun k =>
      if s.levelling k then { s.corner k with state := .active, wake := .stopped, quiet := 0 } else s.corner k }

/-- Forcing the levelling corners ACTIVE changes the state of one of them. -/
def State.forceChanges (s : State) : Bool := allCorners.any fun k => s.levelling k && (s.corner k).state != .active

/-- At the change to KNELT or RIDE an ACTIVE corner resumes quiet counting from 0, or goes FROZEN under the freeze flag
(R85, R96). -/
def settleCorners (s : State) : State :=
  s.setRhc { s.rhc with
    corners := PerCorner.ofFn fun k =>
      let r := s.corner k
      if r.state = .active then if s.rhc.freeze then r.freeze else { r with quiet := 0 } else r }

/-! ### Level mode (R89) -/

/-- Every corner's target set from the level mode (R89). -/
def setTargets (s : State) : State :=
  s.setRhc { s.rhc with corners := PerCorner.ofFn fun k => { s.corner k with target := s.levelTarget s.rhc.level k } }

/-- A change of level mode: the targets are set from it and the combiner's HIGH_LEVEL follows it (R89). -/
def setLevel (m : LevelMode) (s : State) : State :=
  reportSource .highLevel (m == .high) (setTargets (s.setRhc { s.rhc with level := m }))

/-! ### KNELT and LOWERING (R94 to R97, R99) -/

/-- The change to KNELT; the door interlock takes the report of the kneel state (R97, R99, R113). -/
def enterKnelt (s : State) : State :=
  evalGates (settleCorners (s.setRhc { s.rhc with kneel := .knelt, kneelTimer := .stopped }))

/-- The incomplete flag is set by a completion with no levelling corner (R96). -/
def markIncomplete (s : State) : State :=
  if s.noneLevelling then s.setRhc { s.rhc with incomplete := true } else s

/-- The completion condition of LOWERING evaluated (R96, R97). -/
def checkLowered (s : State) : State :=
  if s.rhc.kneel = .lowering ∧ s.complete = true then enterKnelt (markIncomplete s) else s

/-- Entry to LOWERING, from the gate or by reversal (R95, R96), with the reports of R99. -/
def enterLowering (s : State) : State :=
  let s1 := setLevel .kneel (s.setRhc { s.rhc with
    kneel := .lowering, pending := .none, incomplete := false
    kneelTimer := s.timer (s.parN .kneelTimeout), raiseTimer := .stopped })
  let s2 := evalGates (reportSource .kneel true (setHold .kneel true (forceActive s1)))
  if s1.forceChanges then checkLowered s2 else s2

/-- The kneel gate evaluated: a pending kneel whose gate holds proceeds to LOWERING (R94). -/
def evalKneelGate (s : State) : State :=
  if s.rhc.pending = .kneel ∧ s.rhc.kneel = .ride ∧ s.kneelGate = true then enterLowering s else s

/-! ### The air state (R88, R98) -/

/-- A change of the air state, reported to the combiner and to the kneel sequence (R88, R98). -/
def setAir (ok : Bool) (s : State) : State :=
  let s1 := reportSource .airLow (!ok) (s.setRhc { s.rhc with airOk := ok })
  let s2 :=
    if s1.rhc.kneel = .raising then
      if ok then
        if s1.rhc.fault then s1 else s1.setRhc { s1.rhc with raiseTimer := s1.timer (s1.parN .raiseTimeout) }
      else s1.setRhc { s1.rhc with raiseTimer := .stopped }
    else s1
  evalKneelGate s2

/-- The air state evaluated by the rule of the state that stands; at most one change (R88). -/
def evalAir (s : State) : State :=
  if s.rhc.airOk then
    if s.rhc.airEstimate < s.parN .airLow then setAir false s else s
  else if s.parN .airHigh ≤ s.rhc.airEstimate ∧ s.isLost .rsv = false then setAir true s
  else s

/-! ### One event at a block (R108, R138, R139) -/

/-- The handling of one event, after which the door interlock compares the four actions with those standing before it and asks
at most once for an urgent DCM (R108). -/
def withDcm (g : State → State) (s : State) : State :=
  let s1 := g s
  if s1.doorActions = s.doorActions then s1 else urgentDcm s1

/-- The end of the almost-full condition, taken by the door interlock and the ride height controller (R139). -/
def almostFullEnded (s : State) : State := evalKneelGate (withDcm evalGates s)

/-- One event at a block: its handling, the urgent DCM it calls for, and, where it ended the almost-full condition, the report of
that end as a separate event after it (R108, R138, R139; notes/assumptions/6.md). -/
def blockEvent (g : State → State) (s : State) : State :=
  let s1 := withDcm g s
  if s.almostFull && !s1.almostFull then almostFullEnded s1 else s1

end Sys2Proof.Machine
end

