-- ==== Sys2Proof/Machine/Tracker.lean ====
section
/-! DEFINITION. The confirmation tracker (chapter 6): placement with supersession and eviction, cancellation, and removal by
satisfaction or expiry. -/

namespace Sys2Proof.Machine

/-- The queue holds the entry of a kind and unit. -/
def State.expects (s : State) (k : ExpKey) : Bool := s.cft.any fun e => e.key == k

/-- The queue without the entry of a kind and unit; the entries behind it move up and keep their order (R133, R135). -/
def dropKey (k : ExpKey) (q : List Expectation) : List Expectation := q.filter fun e => e.key != k

/-- The counters of a key's kind changed (R141). -/
def countKind (k : ExpKey) (g : KindCtr → KindCtr) (s : State) : State :=
  s.countCft fun c => match k with
    | .doorLock _ => { c with doorLock := g c.doorLock }
    | .stopApply => { c with stopApply := g c.stopApply }
    | .stopRelease => { c with stopRelease := g c.stopRelease }

/-- The older entry of the same kind and unit removed by supersession, silently (R133). -/
def supersede (k : ExpKey) (s : State) : State :=
  if s.expects k then
    (s.setCft (dropKey k s.cft)).countCft fun c => { c with superseded := bump c.superseded }
  else s

/-- The head entry that a placement into a full queue evicts (R132, R134). -/
def State.evictee (s : State) : Option ExpKey :=
  if Config.expectationDepth ≤ s.cft.length then s.cft.head?.map (·.key) else none

/-- The queue after the eviction step of a placement (R132, R134). -/
def evictHead (s : State) : State :=
  match s.evictee with
  | some k => countKind k (fun c => { c with evicted := bump c.evicted }) (s.setCft s.cft.tail)
  | none => s

/-- The new entry appended with its deadline; the placed counter, the peak occupancy and the almost-full onset are counted
(R132, R139, R141). -/
def appendEntry (k : ExpKey) (ms : Nat) (s : State) : State :=
  let q := s.cft ++ [⟨k, s.now + ms⟩]
  let onset := !s.almostFull && decide (Config.almostFullFrom ≤ q.length)
  (countKind k (fun c => { c with placed := bump c.placed }) (s.setCft q)).countCft fun c => { c with
    peak := max c.peak q.length
    almostFullOnsets := if onset then bump c.almostFullOnsets else c.almostFullOnsets }

/-- The supersession step of a placement, and the end of the almost-full condition if the removal ends it, reported at that moment
(R132, R133, R138, R139; notes/assumptions/36.md). -/
def supersedeStep (k : ExpKey) (s : State) : State :=
  let s1 := supersede k s
  if s.almostFull && !s1.almostFull then almostFullEnded s1 else s1

/-- A placement (R132); the eviction it made is reported once it is complete (R134). -/
def place (k : ExpKey) (ms : Nat) (s : State) : State :=
  let s1 := supersedeStep k s
  let s2 := appendEntry k ms (evictHead s1)
  match s1.evictee with
  | some v => reportFailed v s2
  | none => s2

/-- A cancel (R135). -/
def cancel (k : ExpKey) (s : State) : State :=
  if s.expects k then
    (s.setCft (dropKey k s.cft)).countCft fun c => { c with cancelled := bump c.cancelled }
  else s.countCft fun c => { c with cancelMisses := bump c.cancelMisses }

/-- The queue holds the entry of a kind and unit, and its duration has run out since its placement (R137). -/
def State.overdue (s : State) (k : ExpKey) : Bool := s.cft.any fun e => e.key == k && decide (e.due ≤ s.now)

/-- The expiry of a deadline: the entry is removed, the timeout counted and reported to the placer (R137). A deadline that no
entry holds, or that has time left, has no expiry (R2). -/
def expire (k : ExpKey) (s : State) : State :=
  if s.overdue k then
    reportFailed k (countKind k (fun c => { c with timedOut := bump c.timedOut }) (s.setCft (dropKey k s.cft)))
  else s

end Sys2Proof.Machine
end

