-- ==== Sys2Proof/Machine/Brake.lean ====
section
/-! DEFINITION. The brake distribution unit (chapter 3): the service demand, the weights, the requester set and the stop-brake
state machine. -/

namespace Sys2Proof.Machine

/-! ### The state machine (R70 to R74) -/

/-- Entry to APPLYING: the drag flag is cleared, STOP_APPLY is placed, an urgent BAC is asked for and the application counted
(R70). -/
def enterApplying (s : State) : State :=
  let s1 := setStopBrake .applying s
  let s2 := place .stopApply (s1.parN .applyTimeout) (s1.setBdu { s1.bdu with drag := false })
  (urgentBac s2).countBdu fun c => { c with applications := bump c.applications }

/-- Entry to RELEASING: STOP_RELEASE is placed (R70). -/
def enterReleasing (s : State) : State :=
  let s1 := setStopBrake .releasing s
  place .stopRelease (s1.parN .releaseTimeout) s1

/-- Entry to APPLIED: the door interlock and the ride height controller take the report (R70, R94, R113). -/
def enterApplied (s : State) : State := evalKneelGate (evalGates (setStopBrake .applied s))

/-- The requester set with a member added or removed, before the state machine takes the event. -/
def putReq (k : Requester) (b : Bool) (s : State) : State := s.setBdu { s.bdu with req := s.bdu.req.put k b }

/-- What an add to an empty requester set does to the stop-brake state (R71, R74). -/
def firstRequester (s : State) : State :=
  match s.bdu.stopBrake with
  | .released => if s.slow (s.par .stopSpeed) then enterApplying s else setStopBrake .pending s
  | .releasing => enterApplying (cancel .stopRelease s)
  | _ => s

/-- What a removal that empties the requester set does to the stop-brake state (R71 to R74). -/
def lastRequester (s : State) : State :=
  match s.bdu.stopBrake with
  | .pending => setStopBrake .released s
  | .applying => enterReleasing (cancel .stopApply s)
  | .applied | .fault => enterReleasing s
  | _ => s

/-- A request to add a member to the requester set (R67). -/
def addReq (k : Requester) (s : State) : State :=
  if s.bdu.req.has k then s
  else if s.bdu.req.isEmpty then firstRequester (putReq k true s)
  else putReq k true s

/-- A request to remove a member of the requester set (R67). -/
def removeReq (k : Requester) (s : State) : State :=
  if s.bdu.req.has k then
    let s1 := putReq k false s
    if s1.bdu.req.isEmpty then lastRequester s1 else s1
  else s

/-- A member added (`true`) or removed (`false`). -/
def request (k : Requester) (b : Bool) (s : State) : State := if b then addReq k s else removeReq k s

/-- In PENDING the speed condition is evaluated (R71). -/
def evalPending (s : State) : State :=
  if s.bdu.stopBrake = .pending ∧ s.slow (s.par .stopSpeed) = true then enterApplying s else s

/-- The report that STOP_APPLY or STOP_RELEASE is satisfied, in the state that placed it (R72, R74, R75). -/
def stopBrakeSatisfied (k : ExpKey) (s : State) : State :=
  match k, s.bdu.stopBrake with
  | .stopApply, .applying => enterApplied s
  | .stopRelease, .releasing => setStopBrake .released s
  | _, _ => s

/-- An APM or APR arrival at the state machine: the pressure sag of APPLIED (R73) and the late confirmation of FAULT (R74). -/
def pressureArrival (v : Int) (s : State) : State :=
  match s.bdu.stopBrake with
  | .applied =>
    if v < s.applyThreshold then
      enterApplying (s.countBdu fun c => { c with sags := bump c.sags })
    else s
  | .fault =>
    if s.applyMet then
      enterApplied (s.countBdu fun c => { c with lateConfirmations := bump c.lateConfirmations })
    else s
  | _ => s

/-! ### Service demand and weights (R59 to R61) -/

/-- The service demand and the backup flag formed from BPD as it stands (R59). -/
def formDemand (s : State) : State :=
  if s.isLost .bpd then
    let s1 := s.setBdu { s.bdu with demand := 0, backup := true }
    if s.bdu.backup then s1 else s1.countBdu fun c => { c with backupOnsets := bump c.backupOnsets }
  else s.setBdu { s.bdu with
    demand := (roundDiv (s.value .bpd * s.par .pMax) 1000).toNat, backup := false }

/-- The weight of an axle as R60 forms it. -/
def State.formedWeight (s : State) (a : Axle) : Nat :=
  if s.isLost (bellowsSig a) then s.parN (staticParam a) else (s.value (bellowsSig a)).toNat

/-- The weights formed while the latch is FOLLOWING (R60, R61). -/
def formWeights (s : State) : State :=
  if s.weightsLatched then s
  else s.setBdu { s.bdu with weights := ⟨s.formedWeight .f, s.formedWeight .m, s.formedWeight .r⟩ }

/-! ### Signals (R68, R69, R71, R73) -/

/-- A DRQ event: DRIVER at an arrival or a quality event, then START at an arrival in RUN with the switch off (R68). -/
def bduDrq (e : SigEvent) (s : State) : State :=
  let s1 := request .driver (stopSwitch e.value) s
  if e.arrival = true ∧ s.mode = .run ∧ stopSwitch e.value = false then removeReq .start s1 else s1

/-- The brake distribution unit's handling of a signal event. -/
def bduEvent (e : SigEvent) (s : State) : State :=
  match e.sig with
  | .bpd => formDemand s
  | .blf | .blm | .blr => formWeights s
  | .vsp => evalPending s
  | .apm | .apr => if e.arrival then pressureArrival e.value s else s
  | .drq => bduDrq e s
  | _ => s

end Sys2Proof.Machine
end

