-- ==== Sys2Proof/Machine/Level.lean ====
section
/-! DEFINITION. The ride height controller (chapter 4): the kneel sequence, the kneel and level switch, the freeze flag, the
height and reservoir signals. -/

namespace Sys2Proof.Machine

/-! ### The kneel sequence (R91, R93, R95 to R99) -/

/-- The origin after a request that is taken: an AUTO request leaves a MANUAL origin standing (R91). -/
def Origin.taken (old new : Origin) : Origin := if old = .manual ∧ new = .auto then .manual else new

/-- The change to RIDE that completes a raise, with the reports of R99 (R98). -/
def enterRide (s : State) : State :=
  let s1 := settleCorners (s.setRhc { s.rhc with kneel := .ride, raiseTimer := .stopped, origin := .none })
  let s2 := formWeights (reportSource .kneel false (setHold .kneel false s1))
  evalGates (removeReq .kneel s2)

/-- The completion condition of RAISING evaluated (R96, R98). -/
def checkRaised (s : State) : State :=
  if s.rhc.kneel = .raising ∧ s.complete = true then enterRide (markIncomplete s) else s

/-- The completion condition evaluated in LOWERING and in RAISING (R96). -/
def checkComplete (s : State) : State :=
  if s.rhc.kneel = .lowering then checkLowered s else checkRaised s

/-- Entry to RAISING (R97), with the report of the kneel state to the door interlock (R99). -/
def enterRaising (s : State) : State :=
  let s1 := setLevel .ride (s.setRhc { s.rhc with kneel := .raising, pending := .none, kneelTimer := .stopped })
  let s2 := forceActive s1
  let s3 :=
    if s2.rhc.airOk && !s2.rhc.fault then s2.setRhc { s2.rhc with raiseTimer := s2.timer (s2.parN .raiseTimeout) } else s2
  let s4 := evalGates (reportSource .kneel true (setHold .kneel true s3))
  if s1.forceChanges then checkRaised s4 else s4

/-- A raise request (R97). -/
def raiseRequest (s : State) : State :=
  match s.rhc.kneel with
  | .lowering | .knelt =>
    if s.someUnlocked then s.setRhc { s.rhc with pending := .raise } else enterRaising s
  | .ride | .raising => s

/-- A pending kneel cancelled (R95). -/
def cancelKneel (s : State) : State :=
  if s.rhc.pending = .kneel then
    (removeReq .kneel (s.setRhc { s.rhc with pending := .none, origin := .none })).countRhc fun k =>
      { k with cancellations := bump k.cancellations }
  else s

/-- A kneel request, handled according to the kneel state (R93). -/
def kneelRequest (o : Origin) (s : State) : State :=
  let refused := s.countRhc fun k => { k with refusedKneels := bump k.refusedKneels }
  let origin := s.rhc.origin.taken o
  match s.rhc.kneel with
  | .ride =>
    if s.rhc.fault then refused
    else if s.rhc.pending = .kneel then s.setRhc { s.rhc with origin := origin }
    else evalKneelGate (addReq .kneel (s.setRhc { s.rhc with pending := .kneel, origin := origin }))
  | .lowering | .knelt => s.setRhc { s.rhc with pending := .none, origin := origin }
  | .raising =>
    if s.slow (s.par .kneelSpeed) then
      (enterLowering (s.setRhc { s.rhc with origin := origin })).countRhc fun k => { k with reversals := bump k.reversals }
    else refused

/-- The report that every door is LOCKED: it cancels an AUTO pending kneel (R95), and takes LOWERING or KNELT to RAISING by
auto-raise or by a pending raise (R97). -/
def allDoorsLocked (s : State) : State :=
  match s.rhc.kneel with
  | .ride => if s.rhc.origin = .auto then cancelKneel s else s
  | .lowering | .knelt => if s.rhc.origin = .auto ∨ s.rhc.pending = .raise then enterRaising s else s
  | .raising => s

/-- The kneel timer's expiry (R97). -/
def kneelTimerExpired (s : State) : State :=
  if s.rhc.kneelTimer.ended s.now then
    if s.rhc.kneel = .lowering then
      (enterKnelt (s.setRhc { s.rhc with incomplete := true })).countRhc fun k =>
        { k with incompleteKneels := bump k.incompleteKneels }
    else s.setRhc { s.rhc with kneelTimer := .stopped }
  else s

/-- The raise timer's expiry (R98). -/
def raiseTimerExpired (s : State) : State :=
  if s.rhc.raiseTimer.ended s.now then
    let s1 := s.setRhc { s.rhc with raiseTimer := .stopped }
    if s.rhc.kneel = .raising then
      (s1.setRhc { s1.rhc with fault := true }).countRhc fun k => { k with kneelFaults := bump k.kneelFaults }
    else s1
  else s

/-! ### The level mode and the switch (R90, R92) -/

/-- The return from HIGH by speed (R90). -/
def highReturn (s : State) : State :=
  (setLevel .ride s).countRhc fun k => { k with highReturns := bump k.highReturns }

/-- A change of the switch to HIGH (R90). -/
def switchHigh (s : State) : State :=
  if s.rhc.level = .ride ∧ s.rhc.kneel = .ride ∧ s.rhc.pending = .none ∧ s.isLost .vsp = false ∧ s.value .vsp ≤ s.par .highSpeed then
    setLevel .high s
  else s.countRhc fun k => { k with refusedHigh := bump k.refusedHigh }

/-- The controller acts on a new switch position (R92). -/
def switchAction (p : SwitchPos) (s : State) : State :=
  match p with
  | .kneel => kneelRequest .manual s
  | .raise => if s.rhc.kneel = .ride then cancelKneel s else raiseRequest s
  | .high => switchHigh s
  | .ride =>
    let s1 := if s.rhc.kneel = .ride then cancelKneel s else s
    if s1.rhc.level = .high then setLevel .ride s1 else s1
  | .none => s

/-- A KSW event (R92). -/
def rhcKsw (e : SigEvent) (s : State) : State :=
  if e.loses then
    let s1 := cancelKneel s
    s1.setRhc { s1.rhc with lastPos := .none }
  else
    let p := switchPosOf e.value
    if p = s.rhc.lastPos then s else switchAction p (s.setRhc { s.rhc with lastPos := p })

/-! ### The freeze flag (R85) -/

/-- The corners as a change of the freeze flag leaves them (R85). -/
def freezeCorners (on : Bool) (s : State) : State :=
  s.setRhc { s.rhc with
    corners := PerCorner.ofFn fun k =>
      let r := s.corner k
      if on then
        match r.state with
        | .active => if s.rhc.kneel.moving || s.isLost (heightSig k) then r else r.freeze
        | .quiet | .wake => if s.isLost (heightSig k) then r else r.freeze
        | .frozen | .off => r
      else if r.state = .frozen then s.waking r else r }

/-- What follows a change of the corners since `before`: the completion condition if the state of a corner has changed (R96), and
the kneel gate (R94). -/
def cornersChanged (before s : State) : State :=
  evalKneelGate (if before.cornerStates = s.cornerStates then s else checkComplete s)

/-- The freeze flag evaluated (R85). -/
def evalFreeze (s : State) : State :=
  let b := s.freezeWanted
  if b = s.rhc.freeze then s
  else
    let s1 := freezeCorners b (s.setRhc { s.rhc with freeze := b })
    cornersChanged s (if b then s1.countRhc fun k => { k with freezes := bump k.freezes } else s1)

/-! ### Signals (R82 to R85, R87, R90, R95, R97) -/

/-- A corner whose height becomes LOST goes OFF (R84). -/
def cornerOff (k : Corner) (s : State) : State :=
  (s.putCorner k { s.corner k with state := .off, pulse := none, wake := .stopped, quiet := 0 }).countCorner k fun c =>
    { c with offEntries := bump c.offEntries }

/-- The state a corner enters at the event that ends a LOST height (R84). -/
def cornerRecovered (k : Corner) (s : State) : State :=
  let r := { s.corner k with pulse := none, quiet := 0 }
  s.putCorner k
    (if s.rhc.kneel.moving then { r with state := .active, wake := .stopped }
     else if s.rhc.freeze then r.freeze
     else s.waking r)

/-- A height event (R82 to R84). The completion condition is evaluated at each arrival and at each change of a corner's state
(R96). -/
def rhcHeight (k : Corner) (e : SigEvent) (s : State) : State :=
  if e.loses then cornersChanged s (cornerOff k s)
  else if e.arrival then
    evalKneelGate (checkComplete (judgeSample k e.value (if e.regains then cornerRecovered k s else s)))
  else evalKneelGate s

/-- An RSV event (R87, R88). -/
def rhcRsv (e : SigEvent) (s : State) : State :=
  if e.loses then if s.rhc.airOk then setAir false s else s
  else if e.arrival then evalKneelGate (evalAir (s.setRhc { s.rhc with airEstimate := (e.value * 16).toNat }))
  else s

/-- A VSP event (R85, R90, R94, R95, R97). -/
def rhcVsp (e : SigEvent) (s : State) : State :=
  let s1 := evalFreeze s
  let fast := e.arrival && decide (s.par .highSpeed < e.value)
  let s2 := if s1.rhc.level = .high ∧ (fast || (!e.arrival && e.loses)) = true then highReturn s1 else s1
  let s3 := if e.arrival = true ∧ s.par .kneelSpeed < e.value then raiseRequest (cancelKneel s2) else s2
  evalKneelGate s3

/-- The ride height controller's handling of a signal event. -/
def rhcEvent (e : SigEvent) (s : State) : State :=
  match e.sig with
  | .vsp => rhcVsp e s
  | .rsv => rhcRsv e s
  | .ksw => rhcKsw e s
  | .frz => evalFreeze s
  | g => match cornerOf g with
    | some k => rhcHeight k e s
    | none => s

/-- A corner's wake timer expires (R83). -/
def wakeExpired (k : Corner) (s : State) : State :=
  let r := s.corner k
  if r.wake.ended s.now then
    if r.state = .wake then cornersChanged s (s.putCorner k { r with state := .active, quiet := 0, wake := .stopped })
    else s.putCorner k { r with wake := .stopped }
  else s

/-! ### Fault clear and unit reset (R100, R105) -/

/-- FAULT_CLEAR(RHC) (R100). -/
def clearKneelFault (s : State) : State :=
  if s.rhc.fault then
    let s1 := s.setRhc { s.rhc with fault := false }
    if s1.rhc.kneel = .raising ∧ s1.rhc.airOk = true then
      s1.setRhc { s1.rhc with raiseTimer := s1.timer (s1.parN .raiseTimeout) }
    else s1
  else s

/-- A corner as UNIT_RESET(RHC) leaves it (R105). -/
def State.resetCorner (s : State) (k : Corner) : CornerRec :=
  let r := { s.corner k with pulse := none, quiet := 0, wake := .stopped }
  if s.isLost (heightSig k) then { r with state := .off }
  else if s.rhc.kneel.moving then { r with state := .active }
  else if s.rhc.freeze then { r with state := .frozen }
  else s.waking r

/-- UNIT_RESET(RHC). It keeps the kneel state, and with it the source KNEEL (R105, R155), so no completion condition is evaluated
at its changes of the corners. -/
def unitResetRhc (s : State) : State :=
  let s1 := s.setRhc { s.rhc with corners := PerCorner.ofFn s.resetCorner, lastPos := .none, pending := .none }
  if s.rhc.pending = .kneel then removeReq .kneel (s1.setRhc { s1.rhc with origin := .none }) else s1

end Sys2Proof.Machine
end

