-- ==== Sys2Proof/Machine/Schedule.lean ====
section
/-! DEFINITION. The transmit scheduler (chapter 9): the cycle, the due entries, the builds of the generated kinds, deferral, and
the unit reset. -/

namespace Sys2Proof.Machine

/-! ### What a build reads and takes away (R86, R180 to R184) -/

/-- The valve actions (R86), in the order of their encoding (R208). -/
inductive ValveAction where
  | hold | raise | lower
  deriving DecidableEq, Repr

/-- The valve action of a pending pulse (R81, R86). -/
def PulseDir.action : PulseDir → ValveAction
  | .raise => .raise
  | .lower => .lower

/-- The valve action and duration of one corner of a VLC build. -/
structure ValveCommand where
  action : ValveAction
  ms : Nat
  deriving DecidableEq, Repr

/-- A corner's pending pulse taken by a build whose air state at its start is `ok` (R86, R87, R183). -/
def takePulse (ok : Bool) (k : Corner) (s : State) : ValveCommand × State :=
  let s1 := s.putCorner k { s.corner k with pulse := none }
  match (s.corner k).pulse with
  | none => (⟨.hold, 0⟩, s)
  | some ⟨.lower, ms⟩ => (⟨.lower, ms⟩, s1)
  | some ⟨.raise, ms⟩ =>
    if ok then (⟨.raise, ms⟩, s1.setRhc { s1.rhc with airEstimate := s1.rhc.airEstimate - ms * s.parN .raiseCost })
    else (⟨.hold, 0⟩, s1.countRhc fun c => { c with discardedRaises := bump c.discardedRaises })

/-- The three bytes of a valve command (R208). -/
def ValveCommand.bytes (c : ValveCommand) : List Byte := b1 c.action.ctorIdx ++ b2 c.ms

/-- The contents of a VLC build, left corner then right, and the consumption it makes. After a reduction of the estimate the air
state is evaluated once (R88, R183; notes/assumptions/25.md), and with it the kneel gate, which reads the estimate (R94). -/
def valveContents (left right : Corner) (s : State) : List Byte × State :=
  let ok := s.rhc.airOk
  let (a, s1) := takePulse ok left s
  let (b, s2) := takePulse ok right s1
  (a.bytes ++ b.bytes,
   if a.action = .raise ∨ b.action = .raise then blockEvent (fun t => evalKneelGate (evalAir t)) s2 else s2)

/-- The contents of a kind read from its record, and the consumption the build makes (R180 to R184). -/
def takeContents (k : GenKind) (s : State) : List Byte × State :=
  match k with
  | .rsc => let s1 := stepSetpoint s; (s1.rscFields, s1)
  | .bac => (s.bacFields, s)
  | .vlc1 => valveContents .fl .fr s
  | .vlc2 => valveContents .ml .mr s
  | .vlc3 => valveContents .rl .rr s
  | .dcm => (s.dcmFields, s)
  | .gst => (s.gstFields, s)

/-! ### The slot (R176, R178, R179) -/

/-- An entry's repeat flag set or cleared (R178). -/
def setRepeat (i : Fin 32) (b : Bool) (s : State) : State := s.setTxs { s.txs with repeats := s.txs.repeats.set i b }

/-- A due entry that finds its buffer empty: the frame is built and placed (R179, R180). -/
def buildEntry (i : Fin 32) (e : SchedEntry) (s : State) : State :=
  let (fields, s1) := takeContents e.kind s
  let (f, s2) := buildFrame e fields s1
  let s3 := (setRepeat i false s2).countTxs fun k => { k with scheduled := vmodify k.scheduled e.kind.idx bump }
  placeFrame e.kind.port .scheduled f s3

/-- A due entry that finds its buffer occupied: nothing is built and the entry repeats (R178, R179). -/
def deferEntry (i : Fin 32) (e : SchedEntry) (s : State) : State :=
  (setRepeat i true s).countTxs fun k => { k with deferrals := vmodify k.deferrals e.kind.idx bump }

/-- A due entry taken (R179). -/
def takeEntry (i : Fin 32) (e : SchedEntry) (s : State) : State :=
  if (s.port e.kind.port).scheduled.isSome then deferEntry i e s else buildEntry i e s

/-- An entry is due at the slot reached: in its cycle, or by its repeat flag (R178). -/
def State.due (s : State) (slot : Fin 20) (i : Fin 32) (e : SchedEntry) : Bool :=
  e.slot == slot && (s.txs.cycle.val % e.period == e.phase || s.txs.repeats[i])

/-- Entry `i` of the schedule table at the slot reached. -/
def serveEntry (slot : Fin 20) (i : Fin 32) (s : State) : State :=
  match s.txs.table[i] with
  | some e => if s.due slot i e then takeEntry i e s else s
  | none => s

/-- The numbers of the schedule entries, in the order of their index. -/
def schedIndices : List (Fin 32) :=
  [0, 1, 2, 3, 4, 5, 6, 7, 8, 9, 10, 11, 12, 13, 14, 15, 16, 17, 18, 19, 20, 21, 22, 23, 24, 25, 26, 27, 28, 29, 30, 31]

/-- The due entries of a slot taken in the order of their index (R179). -/
def serveSlot (slot : Fin 20) (s : State) : State := schedIndices.foldl (fun t i => serveEntry slot i t) s

/-- The cycle position after the next expiry of the cycle timer: the cycle number and the slot reached (R176, R188). -/
def Txs.next (x : Txs) : Fin 10 × Fin 20 :=
  match x.slot with
  | none => (x.cycle, 0)
  | some j => if j = 19 then (x.cycle + 1, 0) else (x.cycle, j + 1)

/-- The arrival of a slot: one millisecond passes, and in RUN and SERVICE the due entries are built or deferred (R176, R179). -/
def slotReached (s : State) : State :=
  let (cycle, slot) := s.txs.next
  let s1 := (s.setNow (s.now + 1)).setTxs { s.txs with cycle := cycle, slot := some slot }
  if s.mode = .config then s1 else serveSlot slot s1

/-! ### The unit reset (R175, R188) -/

/-- A port with its scheduled-frame buffer emptied. -/
def Port.dropScheduled (p : Port) : Port := { p with scheduled := none }

/-- UNIT_RESET(TXS): the buffers and the urgent queue emptied uncounted, the repeat flags cleared, the alive counters 0 (R175,
R188). -/
def unitResetTxs (s : State) : State :=
  ((s.setPorts ⟨s.ports.cab.dropScheduled, s.ports.chassis.dropScheduled⟩).setUrgent []).setTxs
    { s.txs with repeats := Vector.replicate 32 false, alive := Vector.replicate 7 0 }

end Sys2Proof.Machine
end

