-- ==== Sys2Proof/Machine/Doors.lean ====
section
/-! DEFINITION. The door interlock controller (chapter 5): the door transitions with the reports of R109, the driver's commands
and the door status records. -/

namespace Sys2Proof.Machine

/-! ### Changes of a door's state, with their reports (R69, R109) -/

/-- The requester EMERGENCY evaluated (R69). -/
def evalEmergency (s : State) : State :=
  request .emergency (s.someEmergency && (s.isLost .vsp || decide (s.value .vsp < s.par .emgSpeed))) s

/-- A door's record replaced at a change of its state, and the conditions of R109 that have changed reported: to the brake unit,
the steering engine, the ride height controller and the combiner; the requester EMERGENCY is evaluated at a change into or out
of EMERGENCY (R69). -/
def changeDoor (d : Door) (r : DoorRec) (s : State) : State :=
  let s1 := s.putDoor d r
  let open1 := s1.someUnlocked
  let s2 := if s.someUnlocked = open1 then s1 else request .doors open1 s1
  let s3 := setHold .door s1.someRearUnlocked s2
  let s4 := if s.someUnlocked && !open1 then allDoorsLocked s3 else s3
  let s5 := reportSource .emergency s1.someEmergency (reportSource .doorOpen open1 s4)
  if ((s.door d).state == .emergency) = (r.state == .emergency) then s5 else evalEmergency s5

/-- The record of a door that becomes LOCKED (R114, R119, R124, R125). -/
def DoorRec.lock (r : DoorRec) : DoorRec :=
  { r with
    state := .locked, action := .none, relPending := false, prep := .stopped, dwell := .stopped, warn := .stopped
    obstructions := 0, suspended := false, resetSeen := false, faultFlag := false }

/-- A door becomes LOCKED. -/
def lockDoor (d : Door) (s : State) : State := changeDoor d (s.door d).lock s

/-- Entry to PREPARING (R112). -/
def prepareDoor (d : Door) (s : State) : State :=
  let s1 := changeDoor d
    { s.door d with state := .preparing, relPending := true, prep := s.timer (s.parN .prepTimeout) } s
  let s2 := if (s1.dic.table.get d).autoKneel then kneelRequest .auto s1 else s1
  evalGate d s2

/-- The withdrawal: the action becomes WITHDRAW and DOOR_LOCK is placed (R118). -/
def withdraw (d : Door) (s : State) : State :=
  place (.doorLock d) (s.parN .lockTimeout) (s.putDoor d { s.door d with action := .withdraw, warn := .stopped })

/-- Entry to CLOSING with the warning; with warn_ms at 0 the withdrawal is made at once (R118). -/
def closeWarned (d : Door) (s : State) : State :=
  let s1 := changeDoor d { s.door d with state := .closing, action := .warn, warn := s.timer (s.parN .warnMs) } s
  if s.parN .warnMs = 0 then withdraw d s1 else s1

/-- Entry to CLOSING without the warning: the withdrawal is made at entry (R118). -/
def closeUnwarned (d : Door) (s : State) : State :=
  withdraw d (changeDoor d { s.door d with state := .closing, action := .withdraw } s)

/-- The dwell timer at an entry to OPEN: started if the dwell time is above 0 and the suspension is clear, stopped otherwise
(R116). -/
def State.dwellAtOpen (s : State) (d : Door) (suspended : Bool) : DwellTimer :=
  let ms := (s.dic.table.get d).dwellTime
  if 0 < ms ∧ suspended = false then .running (s.now + ms) else .stopped

/-- Entry to OPEN from RELEASED (R115, R116). -/
def openDoor (d : Door) (s : State) : State :=
  changeDoor d { s.door d with state := .opened, dwell := s.dwellAtOpen d (s.door d).suspended } s

/-- DOOR_LOCK of a door cancelled, if the withdrawal has been made (R120, R121, R123). -/
def cancelLock (d : Door) (s : State) : State := if (s.door d).withdrawn then cancel (.doorLock d) s else s

/-- An obstruction in CLOSING (R116, R120). -/
def obstruct (d : Door) (s : State) : State :=
  let s1 := cancelLock d s
  let r := s1.door d
  let n := bump255 r.obstructions
  let atLimit := decide (s1.parN .obstructLimit ≤ n)
  let susp := r.suspended || atLimit
  let dwell := if atLimit then DwellTimer.stopped else if r.dwell.isRunning then r.dwell else s1.dwellAtOpen d susp
  let s2 := changeDoor d { r with
    state := .opened, action := .permit, warn := .stopped, obstructions := n, suspended := susp, dwell := dwell } s1
  s2.countDoor d fun k => { k with
    obstructions := bump k.obstructions
    suspensions := if atLimit && !r.suspended then bump k.suspensions else k.suspensions }

/-- A re-release in CLOSING, taken if the release gate holds (R121). -/
def reRelease (d : Door) (s : State) : State :=
  if s.releaseGate d then
    let s1 := cancelLock d s
    (changeDoor d { s1.door d with state := .released, action := .permit, warn := .stopped, dwell := .stopped } s1).countDoor d
      fun k => { k with releases := bump k.releases }
  else s

/-- Entry to EMERGENCY (R123). -/
def ventDoor (d : Door) (s : State) : State :=
  let s1 := cancelLock d s
  (changeDoor d { s1.door d with
    state := .emergency, action := .none, relPending := false, resetSeen := false
    prep := .stopped, dwell := .stopped, warn := .stopped } s1).countDoor d fun k => { k with vents := bump k.vents }

/-- Entry to FAULT by DRIVE_FAULT (R124, R126). -/
def faultDoor (d : Door) (s : State) : State :=
  (changeDoor d { s.door d with state := .fault, action := .withdraw, faultFlag := true, resetSeen := false } s).countDoor d
    fun k => { k with faults := bump k.faults }

/-! ### The driver's commands (R110, R111) -/

/-- The standing drive state of a door's status record. -/
def State.driveStateOf (s : State) (d : Door) : Nat := driveState (s.value (statusSig d))

/-- A new emergency reset at a door (R124, R125). -/
def emergencyResetDoor (d : Door) (s : State) : State :=
  let closed := !s.isLost (statusSig d) && s.driveStateOf d == closedLocked
  match (s.door d).state with
  | .emergency => if closed then lockDoor d s else s.putDoor d { s.door d with resetSeen := true }
  | .fault => if closed then lockDoor d s else s
  | _ => s

/-- A new close-all at a door (R114, R115, R117). -/
def closeAllDoor (d : Door) (s : State) : State :=
  match (s.door d).state with
  | .preparing => lockDoor d s
  | .released => closeUnwarned d s
  | .opened => closeWarned d s
  | _ => s

/-- A new release bit at a door (R112, R121). -/
def releaseBitDoor (d : Door) (s : State) : State :=
  match (s.door d).state with
  | .locked => prepareDoor d s
  | .closing => reRelease d s
  | _ => s

/-- An action taken door by door in the order 1 to 4. -/
def forDoors (g : Door → State → State) (s : State) : State := allDoors.foldl (fun t d => g d t) s

/-- A DRQ arrival: the new commands in the order of R110, then the release gates, which the override may have changed (R113). -/
def drqArrival (v : Int) (s : State) : State :=
  let old := s.dic.last
  let new := driverRecOf v
  let newReset := new.emergencyReset && !old.emergencyReset
  let newClose := new.closeAll && !old.closeAll
  let s1 := s.setDic { s.dic with last := new }
  let s2 := if newReset then forDoors emergencyResetDoor s1 else s1
  let s3 := if newClose then forDoors closeAllDoor s2 else s2
  let s4 :=
    if newClose then s3
    else forDoors (fun d t => if new.release.get d && !old.release.get d then releaseBitDoor d t else t) s3
  evalGates s4

/-- DRQ becomes LOST: every PREPARING door returns to LOCKED (R111). -/
def drqLost (s : State) : State :=
  forDoors (fun d t =>
    if (t.door d).state = .preparing then
      (lockDoor d t).countDoor d fun k => { k with cancellations := bump k.cancellations }
    else t) s

/-- A DRQ event at the door interlock (R110, R111). -/
def dicDrq (e : SigEvent) (s : State) : State :=
  if e.loses then drqLost s else if e.arrival then drqArrival e.value s else s

/-! ### Door status records (R115 to R117, R120, R123 to R126) -/

/-- A presence flag in OPEN restarts a running dwell timer under RETRIGGER (R116). -/
def retrigger (d : Door) (s : State) : State :=
  let c := s.dic.table.get d
  if c.dwellMode = .retrigger ∧ (s.door d).dwell.isRunning = true then
    s.putDoor d { s.door d with dwell := .running (s.now + c.dwellTime) }
  else s

/-- A DS arrival handled by the door's state. -/
def statusArrival (d : Door) (v : Int) (s : State) : State :=
  let ds := driveState v
  if ds = driveVent then if (s.door d).state = .emergency then s else ventDoor d s
  else
    match (s.door d).state with
    | .released => if ds = driveOpening ∨ ds = driveOpen then openDoor d s else s
    | .opened => if presence v then retrigger d s else s
    | .closing => if ds = driveObstructed then obstruct d s else s
    | .emergency =>
      if ds = driveFault then faultDoor d s
      else if ds = closedLocked ∧ (s.door d).resetSeen = true then lockDoor d s
      else s
    | .locked | .preparing | .fault => s

/-- The check of a LOCKED door at the arrival that ends a lost status (R126). -/
def checkLockedDoor (d : Door) (v : Int) (s : State) : State :=
  let ds := driveState v
  if ds = closedLocked then s
  else if ds = driveVent then ventDoor d s
  else if ds = driveFault then faultDoor d s
  else (closeWarned d s).countDoor d fun k => { k with foundUnlocked := bump k.foundUnlocked }

/-- A door's status-unknown flag changed and reported (R109, R126). -/
def setStatusUnknown (d : Door) (b : Bool) (s : State) : State :=
  let s1 := s.putDoor d { s.door d with statusUnknown := b }
  reportSource .doorStatusLost s1.someStatusUnknown s1

/-- A DSn event at the door interlock (R126). -/
def dicStatus (d : Door) (e : SigEvent) (s : State) : State :=
  if e.loses then setStatusUnknown d true s
  else if e.arrival then
    if (s.door d).statusUnknown then
      let s1 := setStatusUnknown d false s
      if (s1.door d).state = .locked then checkLockedDoor d e.value s1 else statusArrival d e.value s1
    else statusArrival d e.value s
  else s

/-! ### Speed (R69, R113, R115, R117) -/

/-- The speed rule of a RELEASED or OPEN door (R115, R117). -/
def tooFastDoor (d : Door) (s : State) : State :=
  match (s.door d).state with
  | .released => closeUnwarned d s
  | .opened => closeWarned d s
  | _ => s

/-- A VSP event at the door interlock (R69, R113, R115, R117). -/
def dicVsp (e : SigEvent) (s : State) : State :=
  let s1 := evalEmergency s
  evalGates (if e.arrival = true ∧ s.par .releaseSpeed < e.value then forDoors tooFastDoor s1 else s1)

/-- The speed rules after a write of release_speed: a RELEASED door while VSP is GOOD or HELD, an OPEN door by the standing value
(R115, R117, R127). -/
def releaseSpeedWritten (s : State) : State :=
  let s1 := evalGates s
  if s1.par .releaseSpeed < s1.value .vsp then
    forDoors (fun d t =>
      if (t.door d).state = .released ∧ t.isLost .vsp = true then t else tooFastDoor d t) s1
  else s1

/-- The door interlock's handling of a signal event. -/
def dicEvent (e : SigEvent) (s : State) : State :=
  match e.sig with
  | .vsp => dicVsp e s
  | .rsa => evalGates s
  | .drq => dicDrq e s
  | g => match doorOf g with
    | some d => dicStatus d e s
    | none => s

/-! ### The tracker's reports and the door timers (R114, R117 to R119, R122) -/

/-- The report that DOOR_LOCK is satisfied, for a door in CLOSING after the withdrawal (R119, R122). -/
def doorLockSatisfied (d : Door) (s : State) : State := if (s.door d).withdrawn then lockDoor d s else s

/-- The prep timer's expiry (R114). -/
def prepExpired (d : Door) (s : State) : State :=
  if (s.door d).prep.ended s.now then
    if (s.door d).state = .preparing then
      (lockDoor d s).countDoor d fun k => { k with prepTimeouts := bump k.prepTimeouts }
    else s.putDoor d { s.door d with prep := .stopped }
  else s

/-- The dwell timer's expiry (R107, R117). -/
def dwellExpired (d : Door) (s : State) : State :=
  if (s.door d).dwell.ended s.now then
    let s1 := s.putDoor d { s.door d with dwell := .expired }
    if (s.door d).state = .opened then closeWarned d s1 else s1
  else s

/-- The warn timer's expiry (R118). -/
def warnExpired (d : Door) (s : State) : State :=
  if (s.door d).warn.ended s.now then
    if (s.door d).state = .closing then withdraw d s else s.putDoor d { s.door d with warn := .stopped }
  else s

end Sys2Proof.Machine
end

