-- ==== Sys2Proof/Machine/Events.lean ====
section
/-! DEFINITION. The delivery of a signal event to the blocks that read the signal (R8, R20), with the confirmation tracker's tests
(R136) and the combiner's source SPEED_LOST (R143). -/

namespace Sys2Proof.Machine

/-- The condition of an expectation reads the signal of an arrival event and is met (R136). -/
def State.meets (s : State) (e : SigEvent) (k : ExpKey) : Bool :=
  match k with
  | .doorLock d => e.sig == statusSig d && driveState e.value == closedLocked
  | .stopApply => (e.sig == .apm || e.sig == .apr) && s.applyMet
  | .stopRelease => (e.sig == .apm || e.sig == .apr) && s.releaseMet

/-- The report of a satisfaction, at the placer (R136, R138). -/
def reportSatisfied (k : ExpKey) (s : State) : State :=
  match k with
  | .doorLock d => doorLockSatisfied d s
  | .stopApply | .stopRelease => stopBrakeSatisfied k s

/-- A satisfied entry leaves the queue, is counted, and is reported (R136, R138). -/
def satisfy (k : ExpKey) (s : State) : State :=
  if s.expects k then
    reportSatisfied k (countKind k (fun c => { c with satisfied := bump c.satisfied }) (s.setCft (dropKey k s.cft)))
  else s

/-- The keys of the entries an arrival event satisfies, in queue order (R136). -/
def State.satisfiedKeys (s : State) (e : SigEvent) : List ExpKey := (s.cft.map (·.key)).filter (s.meets e)

/-- The confirmation tracker's handling of a signal event: every entry that an arrival satisfies is removed and reported, each
removal a separate event (R136, R138). A quality event is not tested. -/
def cftEvent (e : SigEvent) (s : State) : State :=
  if e.arrival then (s.satisfiedKeys e).foldl (fun t k => blockEvent (satisfy k) t) s else s

/-- The traction inhibit combiner's handling of a signal event (R143). -/
def ticEvent (e : SigEvent) (s : State) : State :=
  if e.sig = .vsp then reportSource .speedLost (e.quality == .lost) s else s

/-- A block's handling of a signal event. -/
def readerEvent (r : Reader) (e : SigEvent) (s : State) : State :=
  match r with
  | .rse => blockEvent (rseEvent e) s
  | .bdu => blockEvent (bduEvent e) s
  | .rhc => blockEvent (rhcEvent e) s
  | .dic => blockEvent (dicEvent e) s
  | .tic => ticEvent e s
  | .cft => cftEvent e s

/-- The readers of a signal in an order of preference: those it names, as it names them, then the others (R8 fixes no order;
notes/assumptions/4.md). -/
def readersInOrder : List Reader → List Reader → List Reader
  | [], rs => rs
  | r :: t, rs => if rs.contains r then r :: readersInOrder t (rs.erase r) else readersInOrder t rs

/-- A signal event delivered to every reader of its signal (R8, R20). -/
def deliver (e : SigEvent) (s : State) : State :=
  (readersInOrder s.readerPref e.sig.readers).foldl (fun t r => readerEvent r e t) s

end Sys2Proof.Machine
end

