-- ==== Sys2Proof/Machine/Signals.lean ====
section
/-! DEFINITION. The signal monitor (chapter 1): the checks made on an arrival, the channel states, the selection and the
disagreement of a pair, the events they give, the taps along a chain, and the writes and the reset of its tables. -/

namespace Sys2Proof.Machine

/-! ### The checks of an arrival (R10 to R14) -/

/-- The payload holds the channel's value, alive and check positions (R10). -/
def ChanCfg.fits (c : ChanCfg) (len : Nat) : Bool :=
  decide (c.offset + (if c.wide then 2 else 1) ≤ len)
    && c.alivePos.all (fun i => decide (i + 1 ≤ len)) && c.checkPos.all (fun i => decide (i + 1 ≤ len))

/-- The raw value of a payload (R11). -/
def ChanCfg.raw (c : ChanCfg) (p : List Byte) : Int :=
  let n := if c.wide then word16At p c.offset else byteAt p c.offset
  if c.signed then signedOf (if c.wide then 16 else 8) n else n

/-- The channel value: the raw value less the bias, modulo 65536 for a MODULAR signal (R8, R11). -/
def ChanCfg.value (c : ChanCfg) (p : List Byte) : Int :=
  match c.sig.handling with
  | .modular => mod65536 (c.raw p - c.bias)
  | .error _ _ | .saturate _ _ | .any => c.raw p - c.bias

/-- The outcome of the alive test (R13). -/
inductive AliveTest where
  | passes | repeated | sequence
  deriving DecidableEq, Repr

/-- The alive value tested against the expected one (R13). -/
def aliveTest (expected : Option Alive) (a : Alive) : AliveTest :=
  match expected with
  | none => .passes
  | some x => if a = x then .passes else if a = x - 1 then .repeated else .sequence

/-- The outcome of the range test (R14). -/
inductive RangeTest where
  | within (v : Int) | clamped (v : Int) | refused
  deriving DecidableEq, Repr

/-- A channel value tested against the range of its signal (R8, R14). -/
def rangeTest (g : Sig) (v : Int) : RangeTest :=
  match g.handling with
  | .error lo hi => if v < lo ∨ hi < v then .refused else .within v
  | .saturate lo hi => if v < lo then .clamped lo else if hi < v then .clamped hi else .within v
  | .modular | .any => .within v

/-- An arrival judged: the expected alive value and the counters it leaves, and the value taken, if it is taken. -/
structure Judged where
  expAlive : Option Alive
  ctr : ChanCtr
  value : Option Int
  deriving DecidableEq, Repr

/-- The range test of an arrival that has passed the tests before it (R14, R15). -/
def judgeRange (g : Sig) (v : Int) (x : Option Alive) (k : ChanCtr) : Judged :=
  match rangeTest g v with
  | .within w => ⟨x, { k with accepted := bump k.accepted }, some w⟩
  | .clamped w => ⟨x, { k with accepted := bump k.accepted, rangeErrors := bump k.rangeErrors }, some w⟩
  | .refused => ⟨x, { k with rangeErrors := bump k.rangeErrors }, none⟩

/-- The alive test of an arrival, then its range test (R13, R14). -/
def judgeAlive (c : ChanCfg) (p : List Byte) (x : Option Alive) (k : ChanCtr) : Judged :=
  match c.alivePos with
  | none => judgeRange c.sig (c.value p) x k
  | some i =>
    let a : Alive := BitVec.ofNat 4 (byteAt p i)
    match aliveTest x a with
    | .passes => judgeRange c.sig (c.value p) (some (a + 1)) k
    | .repeated => ⟨x, { k with repeatErrors := bump k.repeatErrors }, none⟩
    | .sequence =>
      let k1 := { k with sequenceErrors := bump k.sequenceErrors }
      match c.seqAction with
      | .accept => judgeRange c.sig (c.value p) (some (a + 1)) k1
      | .reject => ⟨some (a + 1), k1, none⟩

/-- An arrival judged by a channel's configuration, in the order length and check byte, repetition, sequence, range (R10 to
R14). -/
def judgeArrival (c : ChanCfg) (p : List Byte) (x : Option Alive) (k : ChanCtr) : Judged :=
  if c.fits p.length = true ∧ (c.checkPos.isNone = true ∨ sumBytes p = 255) then judgeAlive c p x k
  else ⟨x, { k with checkErrors := bump k.checkErrors }, none⟩

/-! ### Channel states (R15 to R17) -/

/-- A taken value: the last good value, the counts and the timers, and the channel state (R15 to R17). -/
def ChanRun.take (r : ChanRun) (v : Int) (fresh stale : Timer) : ChanRun :=
  let n := bump255 r.goodRun
  let t := { r with lastGood := some v, errCount := 0, goodRun := n, freshTimer := fresh, staleTimer := stale }
  match r.state with
  | .never | .fresh => { t with state := .fresh }
  | .suspect => if 3 ≤ n then { t with state := .fresh } else t
  | .stale => { t with state := .suspect, goodRun := 1 }

/-- A refused arrival: the counts, and a second consecutive error in FRESH makes the channel SUSPECT (R15, R16). -/
def ChanRun.refuse (r : ChanRun) : ChanRun :=
  let n := bump255 r.errCount
  let t := { r with errCount := n, goodRun := 0 }
  if r.state = .fresh ∧ 2 ≤ n then { t with state := .suspect } else t

/-- The channel table with one entry's run state replaced. -/
def setRun (c : Fin 48) (ch : Channel) (r : ChanRun) (s : State) : State :=
  s.setSgm { s.sgm with channels := s.sgm.channels.set c (some { ch with run := r }) }

/-- The SUSPECT-entry counter, for a change of state from `old` to `new` (R16, R17). -/
def countSuspect (c : Fin 48) (old new : ChanState) (s : State) : State :=
  if old ≠ .suspect ∧ new = .suspect then
    s.countChan c fun k => { k with suspectEntries := bump k.suspectEntries }
  else s

/-! ### Bindings: selection and disagreement (R21 to R23) -/

/-- The binding of a signal with the run state replaced. -/
def setBind (g : Sig) (r : BindRun) (s : State) : State :=
  s.setSgm { s.sgm with bindings := s.sgm.bindings.set g.num { s.sgm.binding g with run := r } }

/-- The configuration of a binding with a secondary channel and the run states of its two channels, when each of them is
configured and supplies the signal; the signal monitor does not act on any other binding (R7). -/
def Sgm.pair (m : Sgm) (g : Sig) : Option (BindCfg × ChanRun × ChanRun) :=
  match (m.binding g).cfg with
  | none => none
  | some b =>
    match b.secondary with
    | none => none
    | some c2 =>
      match m.supplier g b.primary, m.supplier g c2 with
      | some r1, some r2 => some (b, r1, r2)
      | _, _ => none

/-- The channel is delivering: FRESH or SUSPECT (R21). -/
def ChanState.delivers : ChanState → Bool
  | .fresh | .suspect => true
  | .never | .stale => false

/-- The selection of a pair moves: to SECONDARY (R21), or back to PRIMARY (R22). -/
def selectionMoves (b : BindCfg) (sel : Position) (r1 r2 : ChanRun) : Bool :=
  match sel with
  | .primary => b.autoSwitch && r1.state == .stale && r2.state.delivers
  | .secondary =>
    (b.back == .revert && decide (8 ≤ r1.goodRun)) || (!r2.state.delivers && r1.state == .fresh)

def Position.other : Position → Position
  | .primary => .secondary
  | .secondary => .primary

/-- The selection of a signal's binding evaluated; a move clears the flag, zeroes the runs and is counted (R21, R22). -/
def evalSelection (g : Sig) (s : State) : State :=
  match s.sgm.pair g with
  | none => s
  | some (b, r1, r2) =>
    let r := (s.sgm.binding g).run
    if selectionMoves b r.selection r1 r2 then
      (setBind g { r with selection := r.selection.other, disagree := false, mismatchRun := 0, matchRun := 0 } s).countBind g
        fun k => { k with switches := bump k.switches }
    else s

/-- The run state of a binding after a comparison of two last good values (R23). `v` is the signal's value after the arrival. -/
def BindRun.compare (r : BindRun) (limit v1 v2 v : Int) : BindRun :=
  if limit < ((v1 - v2).natAbs : Int) then
    let n := min 3 (r.mismatchRun + 1)
    if 3 ≤ n ∧ r.disagree = false then
      { r with mismatchRun := n, matchRun := 0, disagree := true, held := some v }
    else { r with mismatchRun := n, matchRun := 0 }
  else
    let n := min 3 (r.matchRun + 1)
    { r with mismatchRun := 0, matchRun := n, disagree := r.disagree && decide (n < 3) }

/-- Disagreement judged at a taken value of the selected channel (R23). -/
def evalDisagreement (g : Sig) (s : State) : State :=
  match s.sgm.pair g with
  | none => s
  | some (b, r1, r2) =>
    match b.limit with
    | none => s
    | some limit =>
      let r := (s.sgm.binding g).run
      if r1.state = .fresh ∧ r2.state = .fresh then
        let r' := r.compare limit (r1.lastGood.getD 0) (r2.lastGood.getD 0) (s.value g)
        let s1 := setBind g r' s
        if r'.disagree && !r.disagree then
          s1.countBind g fun k => { k with disagreements := bump k.disagreements }
        else s1
      else setBind g { r with mismatchRun := 0, matchRun := 0 } s

/-- The event of a signal whose channel, selection or flag may have changed since `before`: an arrival event at a taken value of
its selected channel, and otherwise a quality event if its quality has changed or its selection has moved (R20). -/
def signalEvent (g : Sig) (arrival switched : Bool) (before : Reading) (s : State) : State :=
  let r := s.reading g
  if arrival || switched || r.quality != before.quality then
    deliver ⟨g, arrival, r.value, r.quality, before.quality⟩ s
  else s

/-- What follows a change of one of a signal's channels: the selection, the disagreement at an arrival, and the event (R20 to
R23). `before` is the state before the change. -/
def settleSignal (g : Sig) (arrival : Bool) (before s : State) : State :=
  let s1 := evalSelection g s
  let s2 := if arrival then evalDisagreement g s1 else s1
  let switched := (s2.sgm.binding g).run.selection != (before.sgm.binding g).run.selection
  signalEvent g arrival switched (before.reading g) s2

/-! ### Arrivals (R10, R15) -/

/-- Channel `c` is the selected channel of the binding (R6). -/
def Binding.selects (b : Binding) (c : Fin 48) : Bool :=
  match b.cfg with
  | some cfg => cfg.selected b.run.selection == c
  | none => false

/-- The channel's binding position is named by the binding (R6). -/
def BindCfg.names (b : BindCfg) (c : Fin 48) : Bool := b.primary == c || b.secondary == some c

/-- A frame applied to a configured channel (R10 to R17, R20 to R23). A taken value is an arrival of the signal on its selected
channel alone, and only while the signal monitor acts on the binding (R7, R20). -/
def applyArrival (c : Fin 48) (ch : Channel) (f : Frame) (s : State) : State :=
  let j := judgeArrival ch.cfg f.payload ch.run.expAlive s.ctr.sgm.chans[c]
  let r0 := { ch.run with expAlive := j.expAlive }
  let r := match j.value with
    | some v => r0.take v (s.timer ch.cfg.maxAge) (s.timer (s.parN .staleMult * ch.cfg.maxAge))
    | none => r0.refuse
  let s1 := countSuspect c ch.run.state r.state ((setRun c ch r s).countChan c fun _ => j.ctr)
  settleSignal ch.cfg.sig (j.value.isSome && s.sgm.acts ch.cfg.sig && (s.sgm.binding ch.cfg.sig).selects c) s s1

/-- A tapped frame applied along a chain of channels (R10). `n` bounds the channels still to visit; a chain ends within 48. -/
def tapChain (f : Frame) : Nat → Fin 48 → State → State
  | 0, _, s => s
  | n + 1, c, s =>
    match s.sgm.channels[c] with
    | none => s.countSgm fun k => { k with unconfiguredTaps := bump k.unconfiguredTaps }
    | some ch =>
      let s1 := applyArrival c ch f s
      match ch.cfg.next with
      | none => s1
      | some c2 => tapChain f n c2 s1

/-- A frame handed to the signal monitor for a channel (R10). -/
def tapFrame (c : Fin 48) (f : Frame) (s : State) : State := tapChain f 48 c s

/-! ### The channel timers (R16, R17) -/

/-- The freshness timer of a channel expires (R16). A timer that does not run, or has time left, has no expiry (R2). -/
def freshnessExpired (c : Fin 48) (s : State) : State :=
  match s.sgm.channels[c] with
  | none => s
  | some ch =>
    if ch.run.freshTimer.ended s.now then
      let r := { ch.run with freshTimer := .stopped }
      if ch.run.state = .fresh then
        settleSignal ch.cfg.sig false s
          (countSuspect c .fresh .suspect (setRun c ch { r with state := .suspect, goodRun := 0 } s))
      else setRun c ch r s
    else s

/-- The stale timer of a channel expires (R17). -/
def staleExpired (c : Fin 48) (s : State) : State :=
  match s.sgm.channels[c] with
  | none => s
  | some ch =>
    if ch.run.staleTimer.ended s.now then
      let r := { ch.run with staleTimer := .stopped }
      if ch.run.state = .suspect then
        settleSignal ch.cfg.sig false s
          ((setRun c ch { r with state := .stale, freshTimer := .stopped } s).countChan c fun k =>
            { k with staleEntries := bump k.staleEntries })
      else setRun c ch r s
    else s

/-! ### Table writes and the unit reset (R5, R6, R25) -/

/-- The binding of `g` names channel `c` (R6). -/
def Sgm.bindingNames (m : Sgm) (g : Sig) (c : Fin 48) : Bool := (m.binding g).cfg.any (·.names c)

/-- A channel entry written, which puts its run state in NEVER, and what that does to the signals whose bindings name it (R5). -/
def writeChannel (c : Fin 48) (cfg : Option ChanCfg) (s : State) : State :=
  let s1 := s.setSgm { s.sgm with channels := s.sgm.channels.set c (cfg.map fun x => ⟨x, .neverRun⟩) }
  Sig.all.foldl (fun t g => if s.sgm.bindingNames g c then settleSignal g false s t else t) s1

/-- The channel table with the run state of channel `c`, if it supplies `g`, in NEVER (R6). -/
def Sgm.renew (m : Sgm) (g : Sig) (c : Fin 48) : Sgm :=
  { m with channels := vmodify m.channels c fun x => x.map fun ch =>
      if ch.cfg.sig = g then { ch with run := .neverRun } else ch }

/-- A binding written (R6). The held value is kept; it is not read while the flag is clear (notes/assumptions/32.md). A selection
that the write sets back to PRIMARY is no switch of selection (R21, R22): none is counted, and a quality event is delivered only if
the quality changes, DESIGN CHOICE, unsafe (notes/assumptions/42.md). -/
def writeBinding (g : Sig) (cfg : Option BindCfg) (s : State) : State :=
  let run := { (s.sgm.binding g).run with selection := .primary, disagree := false, mismatchRun := 0, matchRun := 0 }
  let m1 : Sgm := { s.sgm with bindings := s.sgm.bindings.set g.num ⟨cfg, run⟩ }
  let m2 := match cfg with
    | none => m1
    | some b =>
      let m := m1.renew g b.primary
      match b.secondary with
      | none => m
      | some c2 => m.renew g c2
  signalEvent g false false (s.reading g) (s.setSgm m2)

/-- The signal monitor's run states reinitialised: every configured channel in NEVER, every binding's run state as after a reset
(R25). -/
def Sgm.reinit (m : Sgm) : Sgm :=
  ⟨vmap (fun x => x.map fun ch => { ch with run := .neverRun }) m.channels, vmap (fun b => { b with run := .start }) m.bindings⟩

/-- UNIT_RESET(SGM): every run state reinitialised together, then a quality event for each signal that was not LOST (R25). -/
def unitResetSgm (s : State) : State :=
  Sig.all.foldl (fun t g => signalEvent g false false (s.reading g) t) (s.setSgm s.sgm.reinit)

end Sys2Proof.Machine
end

