-- ==== Sys2Proof/Machine/Records.lean ====
section
/-! DEFINITION. The 16-byte table records (R209): the record a TABLE_WRITE carries read into an entry, refused where a field lies
outside its range, and the record a TABLE_READ answers. A record is read as bytes 0 to 15; a value of `none` is BAD_VALUE. -/

namespace Sys2Proof.Machine

/-- A number with a bound, where it is within it. -/
def fin? (n : Nat) (x : Nat) : Option (Fin n) := if h : x < n then some ⟨x, h⟩ else none

/-- A two-way choice encoded 0 and 1 (chapter 11). -/
def choice {α : Type} (a b : α) (x : Nat) : Option α := if x = 0 then some a else if x = 1 then some b else none

/-- A one-byte optional field: absent at 0xFF (chapter 11), and otherwise as `g` reads it. -/
def optional {α : Type} (g : Nat → Option α) (x : Nat) : Option (Option α) :=
  if x = 255 then some none else (g x).map some

/-- A number that a field holds when it lies in lo..hi. -/
def within (lo hi : Nat) (x : Nat) : Option Nat := if lo ≤ x ∧ x ≤ hi then some x else none

/-- A record whose first byte is the configured flag (R209): `some none` makes the entry EMPTY. -/
def configured {α : Type} (p : List Byte) (g : Option α) : Option (Option α) :=
  if byteAt p 0 = 0 then some none else if byteAt p 0 = 1 then g.map some else none

/-- An identifier kind byte (R209). -/
def idKindOf (x : Nat) : Option IdKind := choice .base .extended x

/-- The largest identifier of a kind (R157, R177). -/
def identTop : IdKind → Nat
  | .base => 2047
  | .extended => 536870911

/-- A four-byte identifier or mask within the range of a kind (R157, R177). -/
def identOf (k : IdKind) (n : Nat) : Option Ident := if n ≤ identTop k then some (BitVec.ofNat 29 n) else none

/-- A four-byte identifier field. -/
def identBytes (i : Ident) : List Byte := b4 i.toNat

/-! ### Route entries (R157, R158) -/

/-- The arrival port byte. -/
def arrivalOf (x : Nat) : Option ArrivalPort :=
  if x = 0 then some .cab else if x = 1 then some .chassis else if x = 2 then some .any else none

/-- The channel byte of a route record whose action does not tap must be absent; the rewrite kind byte of one whose action is not
REWRITE must be absent (R158, R209). -/
def routeActionOf (p : List Byte) : Option RouteAction :=
  let action := byteAt p 11
  let channel := byteAt p 12
  let rewrite := byteAt p 13
  let torqueAt := byteAt p 14
  let checkAt := byteAt p 15
  if action = 1 ∨ action = 2 then
    if rewrite = 255 then (fin? 48 channel).map fun c => if action = 1 then .tap c else .passTap c else none
  else if action = 3 then
    if channel = 255 ∧ rewrite = 0 ∧ torqueAt ≤ 62 ∧ checkAt ≤ 63 ∧ checkAt ≠ torqueAt ∧ checkAt ≠ torqueAt + 1 then
      some (.rewrite torqueAt checkAt)
    else none
  else if channel = 255 ∧ rewrite = 255 then
    if action = 0 then some .pass else if action = 4 then some .drop else none
  else none

/-- A route record (R209). -/
def parseRoute (p : List Byte) : Option (Option RouteEntry) :=
  configured p do
    let arrival ← arrivalOf (byteAt p 1)
    let kind ← idKindOf (byteAt p 2)
    let ident ← identOf kind (word32At p 3)
    let mask ← identOf kind (word32At p 7)
    let action ← routeActionOf p
    pure ⟨arrival, kind, ident, mask, action⟩

/-- The last five bytes of a route record. The fields absent from an action are answered at 0xFF (notes/assumptions/38.md). -/
def RouteAction.bytes : RouteAction → List Byte
  | .pass => [0, 255, 255, 255, 255]
  | .tap c => [1, BitVec.ofNat 8 c, 255, 255, 255]
  | .passTap c => [2, BitVec.ofNat 8 c, 255, 255, 255]
  | .rewrite t c => [3, 255, 0, BitVec.ofNat 8 t, BitVec.ofNat 8 c]
  | .drop => [4, 255, 255, 255, 255]

/-- The bytes of a configured route entry. -/
def RouteEntry.bytes (e : RouteEntry) : List Byte :=
  b1 1 ++ b1 e.arrival.ctorIdx ++ b1 e.kind.ctorIdx ++ identBytes e.ident ++ identBytes e.mask ++ e.action.bytes

/-! ### Channel records (R4, R5) -/

/-- A channel record for the entry `c` (R5, R209). -/
def parseChannel (c : Fin 48) (p : List Byte) : Option (Option ChanCfg) :=
  configured p do
    let sig ← Sig.ofNum (byteAt p 1)
    let role ← choice Position.primary .secondary (byteAt p 2)
    if role = .secondary ∧ sig.pairable = false then none
    let offset ← within 0 63 (byteAt p 3)
    let width ← within 1 2 (byteAt p 4)
    let signed ← choice false true (byteAt p 5)
    let alivePos ← optional (within 0 63) (byteAt p 8)
    let checkPos ← optional (within 0 63) (byteAt p 9)
    let maxAge ← within 10 2000 (word16At p 10)
    let seqAction ← choice SeqAction.accept .reject (byteAt p 12)
    let next ← optional (fin? 48) (byteAt p 13)
    if next.any (fun n => decide (n ≤ c)) then none
    pure ⟨sig, role, offset, width == 2, signed, signedOf 16 (word16At p 6), alivePos, checkPos, maxAge, seqAction, next⟩

/-- An optional one-byte field. -/
def optByte (x : Option Nat) : List Byte := b1 (x.getD 255)

/-- The bytes of a configured channel entry. -/
def ChanCfg.bytes (c : ChanCfg) : List Byte :=
  b1 1 ++ b1 c.sig.num ++ b1 c.role.ctorIdx ++ b1 c.offset ++ b1 (if c.wide then 2 else 1) ++ flag c.signed ++ i2 c.bias
    ++ optByte c.alivePos ++ optByte c.checkPos ++ b2 c.maxAge ++ b1 c.seqAction.ctorIdx ++ optByte (c.next.map (·.val))

/-! ### Bindings (R6) -/

/-- A binding record for the signal `g` (R6, R209). -/
def parseBinding (g : Sig) (p : List Byte) : Option (Option BindCfg) :=
  configured p do
    let primary ← fin? 48 (byteAt p 1)
    let secondary ← optional (fin? 48) (byteAt p 2)
    if secondary.isSome = true ∧ g.pairable = false then none
    let auto ← choice false true (byteAt p 3)
    let back ← choice ReturnRule.revert .stay (byteAt p 4)
    let limit ← if word16At p 5 = 65535 then some none else (within 0 12000 (word16At p 5)).map some
    pure ⟨primary, secondary, auto, back, limit⟩

/-- The bytes of a bound binding entry. -/
def BindCfg.bytes (b : BindCfg) : List Byte :=
  b1 1 ++ b1 b.primary ++ optByte (b.secondary.map (·.val)) ++ flag b.autoSwitch ++ b1 b.back.ctorIdx ++ b2 (b.limit.getD 65535)

/-! ### Schedule entries (R177) -/

/-- The generated kinds in the order of their numbers (R177). -/
def allKinds : List GenKind := [.rsc, .bac, .vlc1, .vlc2, .vlc3, .dcm, .gst]

/-- The port byte (R177). -/
def portOf (x : Nat) : Option PortId := choice .cab .chassis x

/-- A schedule record (R177, R209). -/
def parseSchedule (p : List Byte) : Option (Option SchedEntry) :=
  configured p do
    let slot ← fin? 20 (byteAt p 1)
    let period := byteAt p 2
    if period ≠ 1 ∧ period ≠ 2 ∧ period ≠ 5 ∧ period ≠ 10 then none
    let phase := byteAt p 3
    if period ≤ phase then none
    let kind ← allKinds[byteAt p 4]?
    let idKind ← idKindOf (byteAt p 5)
    let ident ← identOf idKind (word32At p 6)
    let port ← portOf (byteAt p 10)
    if port ≠ kind.port then none
    pure ⟨slot, period, phase, kind, idKind, ident⟩

/-- The bytes of a configured schedule entry. -/
def SchedEntry.bytes (e : SchedEntry) : List Byte :=
  b1 1 ++ b1 e.slot ++ b1 e.period ++ b1 e.phase ++ b1 e.kind.idx ++ b1 e.idKind.ctorIdx ++ identBytes e.ident
    ++ b1 e.kind.port.ctorIdx

/-! ### Door entries and kneel offsets (R89, R106) -/

/-- A door record (R106, R209). -/
def parseDoor (p : List Byte) : Option DoorCfg := do
  let sect ← choice Section.front .rear (byteAt p 0)
  let autoKneel ← choice false true (byteAt p 1)
  let dwellMode ← choice DwellMode.retrigger .fixed (byteAt p 2)
  let dwellTime ← within 0 60000 (word16At p 3)
  pure ⟨sect, autoKneel, dwellMode, dwellTime⟩

/-- The bytes of a door entry. -/
def DoorCfg.bytes (d : DoorCfg) : List Byte := b1 d.sect.ctorIdx ++ flag d.autoKneel ++ b1 d.dwellMode.ctorIdx ++ b2 d.dwellTime

/-- A kneel offset record (R89, R209). -/
def parseOffset (p : List Byte) : Option Int :=
  let x := signedOf 16 (word16At p 0)
  if -100 ≤ x ∧ x ≤ 0 then some x else none

/-! ### Profile records (R38, R40) -/

/-- A profile with record `i` written: every value the bytes can hold is accepted (R40, R209). -/
def Profile.write (q : Profile) (i : Nat) (p : List Byte) : Profile :=
  if i = 0 then
    { q with n := byteAt p 0, lo := signedOf 16 (word16At p 1), hi := signedOf 16 (word16At p 3), bounded := byteAt p 5 != 0 }
  else { q with
    points := q.points.setIfInBounds (i - 1)
      ⟨word16At p 0, signedOf 16 (word16At p 2), signedOf 24 (word24At p 4)⟩ }

/-- The bytes of a breakpoint. -/
def Breakpoint.bytes (b : Breakpoint) : List Byte := i2 b.speed ++ i2 b.gain ++ i3 b.delta

/-- The bytes of record `i` of a profile (R209). -/
def Profile.bytes (q : Profile) (i : Nat) : List Byte :=
  if i = 0 then b1 q.n ++ i2 q.lo ++ i2 q.hi ++ flag q.bounded else (q.points.toList.getD (i - 1) ⟨0, 0, 0⟩).bytes

/-- The first check of R40 that breakpoint `i` or one after it fails, `k` breakpoints being left. -/
def Profile.badPoint (q : Profile) : Nat → Nat → Option Nat
  | 0, _ => none
  | k + 1, i =>
    let b := q.points.toList.getD i ⟨0, 0, 0⟩
    let before := q.points.toList.getD (i - 1) ⟨0, 0, 0⟩
    if 0 ≤ b.speed ∧ b.speed ≤ 12000 ∧ (i = 0 ∨ before.speed < b.speed) ∧ -16384 ≤ b.gain ∧ b.gain ≤ 16384 then
      q.badPoint k (i + 1)
    else some (i + 1)

/-- The record at which the validation of a profile fails, none if it passes (R40). -/
def Profile.failure (q : Profile) : Option Nat :=
  if 2 ≤ q.n ∧ q.n ≤ 16 ∧ -2000 ≤ q.lo ∧ q.lo ≤ 0 ∧ 0 ≤ q.hi ∧ q.hi ≤ 2000 then q.badPoint q.n 0 else some 0

end Sys2Proof.Machine
end

