-- ==== Sys2Proof/Machine/Requests.lean ====
section
/-! DEFINITION. The service requests of chapter 10, each as a function from the state at its take to a reply: the parameters
(R199) and their effects, the tables (R196 to R198), the operating modes and the commit validation (R192 to R194), the profile
selection (R48), the fault clears, the management inhibit, the warm restart (R204) and the unit resets. -/

namespace Sys2Proof.Machine

/-! ### Replies (R189, R190, R207) -/

/-- The status codes (R207), in the order of their numbers. -/
inductive Status where
  | ok | unknownRequest | badLength | wrongMode | notStandstill | badState | badTable | badIndex | badValue | notOpen | inUse
  | busy | checkFailed
  deriving DecidableEq, Repr

/-- The reply to a request: its status, the data of the answer, and the state after its effect. -/
structure Reply where
  status : Status
  data : List Byte
  state : State
  deriving DecidableEq, Repr

/-- A request refused: no data and no effect (R190). -/
def refuse (st : Status) (s : State) : Reply := ⟨st, [], s⟩

/-- A request answered OK with data and its effect. -/
def okWith (data : List Byte) (s : State) : Reply := ⟨.ok, data, s⟩

/-- A request answered OK without data. -/
def okay (s : State) : Reply := okWith [] s

/-- A CHECK_FAILED reply: a table number and an index (R207). -/
def failed (table index : Nat) (s : State) : Reply := ⟨.checkFailed, b1 table ++ b2 index, s⟩

/-! ### Service identifiers (R191, R210) -/

/-- The identifier that the written value of a service identifier codes (R210). -/
def svcIdOf (v : Int) : SvcId :=
  let n := (BitVec.ofInt 32 v).toNat
  if 0x80000000 ≤ n then ⟨.extended, BitVec.ofNat 29 (n - 0x80000000)⟩ else ⟨.base, BitVec.ofNat 29 n⟩

/-- The four bytes of a service identifier (R210). -/
def SvcId.bytes (x : SvcId) : List Byte :=
  b4 (match x.kind with
    | .base => x.ident.toNat
    | .extended => x.ident.toNat + 0x80000000)

/-! ### Parameters (R199) -/

/-- The parameter is a service identifier (R191). -/
def ParamId.isSvcId : ParamId → Bool
  | .svcReqId | .svcRspId => true
  | _ => false

/-- The value lies in the parameter's range (R210). -/
def ParamId.admits (k : ParamId) (v : Int) : Bool :=
  if k.isSvcId then svcIdValid (BitVec.ofInt 32 v) else decide (k.row.lo ≤ v) && decide (v ≤ k.row.hi)

/-- The pair that a write keeps in order: stop_p with p_max (R77), and pulse_min with pulse_max (R101). -/
def State.pairHolds (s : State) (k : ParamId) (v : Int) : Bool :=
  match k with
  | .stopP => decide (v ≤ s.par .pMax)
  | .pMax => decide (s.par .stopP ≤ v)
  | .pulseMin => decide (v ≤ s.par .pulseMax)
  | .pulseMax => decide (s.par .pulseMin ≤ v)
  | _ => true

/-- The status with which the owner's rule refuses a write, if it does (R47, R54, R77, R101, R127, R152, R159, R191). A negative
mech is outside its range (R54) and below the magnitude of the issued setpoint (R47); the range is tested first
(notes/assumptions/39.md). -/
def State.writeRefusal (s : State) (k : ParamId) (v : Int) : Option Status :=
  if k.admits v = false then some .badValue
  else if s.pairHolds k v = false then some .badValue
  else if k = .mech ∧ v < (s.rse.issued.natAbs : Int) then some .badState
  else none

/-- What the write of a parameter does at that moment at the blocks that use it (R54, R77, R101, R127, R152). -/
def paramEffect (k : ParamId) (s : State) : State :=
  match k with
  | .spacing | .lag => clearTrace s
  | .mech => clampTarget s
  | .jkAngle | .jkSpeed => evaluateJackknife s
  | .centreBand => evalGates s
  | .pMax => formDemand s
  | .staticWF | .staticWM | .staticWR => formWeights s
  | .stopSpeed => evalPending s
  | .emgSpeed => evalEmergency s
  | .airLow | .airHigh => evalAir s
  | .kneelSpeed =>
    let s1 := evalFreeze s
    evalKneelGate (if s1.par .kneelSpeed < s1.value .vsp then cancelKneel s1 else s1)
  | .kneelReserve => evalKneelGate s
  | .highOffset => if s.rhc.level = .high then setTargets s else s
  | .highSpeed => if s.rhc.level = .high ∧ s.par .highSpeed < s.value .vsp then highReturn s else s
  | .deadband => checkComplete s
  | .releaseSpeed => releaseSpeedWritten s
  | .enableMask => reformCombined s
  | .staleMult | .odoMaxStep | .slew | .trackTol | .trackCount | .stopP | .stopTol | .releaseTol | .jkBias
  | .applyTimeout | .releaseTimeout | .wakeBand | .quietCount | .wakeMs | .pulseGain | .pulseMin | .pulseMax | .raiseCost
  | .kneelTimeout | .raiseTimeout | .prepTimeout | .warnMs | .lockTimeout | .obstructLimit | .releaseGap | .torqueCap
  | .defaultCab | .defaultChassis | .svcReqId | .svcRspId => s

/-- PARAM_READ (R199). -/
def paramRead (number : Nat) (s : State) : Reply :=
  match ParamId.ofNumber number with
  | none => refuse .badIndex s
  | some k => okWith (i4 (s.par k)) s

/-- PARAM_WRITE (R199). -/
def paramWrite (number : Nat) (v : Int) (s : State) : Reply :=
  match ParamId.ofNumber number with
  | none => refuse .badIndex s
  | some k =>
    if s.mode = .run then refuse .wrongMode s
    else if k.isSvcId = true ∧ s.mode = .service then refuse .wrongMode s
    else match s.writeRefusal k v with
      | some st => refuse st s
      | none => okay (blockEvent (paramEffect k) (s.setParams (s.params.set k v)))

/-! ### Tables (R195 to R198) -/

/-- The number of a table (R207). -/
def TableId.number : TableId → Nat
  | .route => 0 | .channel => 1 | .binding => 2 | .schedule => 3 | .door => 4 | .kneelOffset => 5
  | .profile p => 8 + p.val

/-- The table of a number (R207). -/
def TableId.ofNumber (n : Nat) : Option TableId :=
  if n < 6 then [TableId.route, .channel, .binding, .schedule, .door, .kneelOffset][n]?
  else if 8 ≤ n then (fin? 4 (n - 8)).map .profile
  else none

/-- The number of records of a table (R195). -/
def TableId.size : TableId → Nat
  | .route => 128 | .channel => 48 | .binding => 27 | .schedule => 32 | .door => 4 | .kneelOffset => 6
  | .profile _ => 17

def TableId.isProfile : TableId → Bool
  | .profile _ => true
  | _ => false

/-- A table other than a profile is never in use; a profile is in use as R39 gives. -/
def State.tableInUse (s : State) : TableId → Bool
  | .profile p => s.profileInUse p
  | _ => false

/-- A profile changed by a function. -/
def changeProfile (p : Fin 4) (g : Profile → Profile) (s : State) : State :=
  s.setRse { s.rse with profiles := vmodify s.rse.profiles p g }

/-- A profile's state set: VALID or INVALID (R38). -/
def setProfileValid (p : Fin 4) (b : Bool) (s : State) : State := changeProfile p (fun q => { q with valid := b }) s

def setPointer (x : Option (TableId × Nat)) (s : State) : State := s.setSvr { s.svr with pointer := x }

/-- TABLE_OPEN (R196). -/
def tableOpen (number index : Nat) (s : State) : Reply :=
  match TableId.ofNumber number with
  | none => refuse .badTable s
  | some t =>
    if s.svr.pointer.isSome then refuse .busy s
    else if t.size ≤ index then refuse .badIndex s
    else if s.tableInUse t then refuse .inUse s
    else
      let s1 := setPointer (some (t, index)) s
      okay (match t with
        | .profile p => setProfileValid p false s1
        | _ => s1)

/-- The outcome of writing one record: refused with a status, or taken with the state after it. -/
abbrev Written := Except Status State

/-- A record that is none is BAD_VALUE; otherwise the write is taken. -/
def takenIf {α : Type} (r : Option α) (g : α → State) : Written :=
  match r with
  | none => .error .badValue
  | some x => .ok (g x)

/-- Door `i` of the door table (R209). -/
def doorNumber (i : Nat) : Option Door := allDoors[i]?

/-- Corner `i` of the kneel offset table (R209). -/
def cornerNumber (i : Nat) : Option Corner := allCorners[i]?

/-- A door entry written, if its door is LOCKED (R106). -/
def writeDoor (d : Door) (p : List Byte) (s : State) : Written :=
  match parseDoor p with
  | none => .error .badValue
  | some c =>
    if (s.door d).state = .locked then .ok (s.setDic { s.dic with table := s.dic.table.set d c }) else .error .badState

/-- A kneel offset written; it sets its corner's target while the level mode is KNEEL (R89). -/
def writeOffset (k : Corner) (v : Int) (s : State) : State :=
  let s1 := s.setRhc { s.rhc with offsets := s.rhc.offsets.set k v }
  if s.rhc.level = .kneel then s1.putCorner k { s1.corner k with target := v } else s1

/-- A schedule entry written; its repeat flag is cleared (R177). -/
def writeSchedule (i : Fin 32) (e : Option SchedEntry) (s : State) : State :=
  setRepeat i false (s.setTxs { s.txs with table := s.txs.table.set i e })

/-- A record index that a table does not have; the pointer is tested before the record (R197). -/
def noRecord : Written := .error .badIndex

/-- A record written under the record rules of its table (R195, R197). -/
def writeRecord (t : TableId) (i : Nat) (p : List Byte) (s : State) : Written :=
  match t with
  | .route => match fin? 128 i with
    | some j => takenIf (parseRoute p) fun e => s.setRoutes (s.routes.set j e)
    | none => noRecord
  | .channel => match fin? 48 i with
    | some c => takenIf (parseChannel c p) fun x => writeChannel c x s
    | none => noRecord
  | .binding => match Sig.ofNum i with
    | some g => takenIf (parseBinding g p) fun b => writeBinding g b s
    | none => noRecord
  | .schedule => match fin? 32 i with
    | some j => takenIf (parseSchedule p) fun e => writeSchedule j e s
    | none => noRecord
  | .door => match doorNumber i with
    | some d => writeDoor d p s
    | none => noRecord
  | .kneelOffset => match cornerNumber i with
    | some k => takenIf (parseOffset p) fun v => writeOffset k v s
    | none => noRecord
  | .profile q => .ok (changeProfile q (fun x => x.write i p) s)

/-- TABLE_WRITE (R197). -/
def tableWrite (p : List Byte) (s : State) : Reply :=
  match s.svr.pointer with
  | none => refuse .notOpen s
  | some (t, i) =>
    if t.size ≤ i then refuse .badIndex s
    else if t.isProfile = false ∧ s.mode = .run then refuse .wrongMode s
    else match writeRecord t i p s with
      | .error st => refuse st s
      | .ok s1 => okay (setPointer (some (t, i + 1)) s1)

/-- The bytes of an entry, none being EMPTY (R209). -/
def entryBytes {α : Type} (g : α → List Byte) (x : Option α) : List Byte :=
  match x with
  | some e => g e
  | none => []

/-- The bytes of record `i` of a table, before they are carried to sixteen (R209). -/
def State.recordBytes (s : State) (t : TableId) (i : Nat) : List Byte :=
  match t with
  | .route => entryBytes RouteEntry.bytes ((s.routes.toList[i]?).join)
  | .channel => entryBytes (fun ch => ch.cfg.bytes) ((s.sgm.channels.toList[i]?).join)
  | .binding => entryBytes BindCfg.bytes ((s.sgm.bindings.toList[i]?).bind (·.cfg))
  | .schedule => entryBytes SchedEntry.bytes ((s.txs.table.toList[i]?).join)
  | .door => entryBytes (fun d => (s.dic.table.get d).bytes) (doorNumber i)
  | .kneelOffset => entryBytes (fun k => i2 (s.rhc.offsets.get k)) (cornerNumber i)
  | .profile q => s.rse.profiles[q].bytes i

/-- TABLE_READ (R197). -/
def tableRead (s : State) : Reply :=
  match s.svr.pointer with
  | none => refuse .notOpen s
  | some (t, i) =>
    if t.size ≤ i then refuse .badIndex s
    else okWith (padTo 16 (s.recordBytes t i)) (setPointer (some (t, i + 1)) s)

/-- TABLE_CLOSE (R40, R198). -/
def tableClose (s : State) : Reply :=
  match s.svr.pointer with
  | none => refuse .notOpen s
  | some (t, _) =>
    let s1 := setPointer none s
    match t with
    | .profile p =>
      match s1.rse.profiles[p].failure with
      | none => okay (setProfileValid p true s1)
      | some r => failed t.number r s1
    | _ => okay s1

/-! ### The commit validation (R194) -/

/-- A channel number names a configured channel that supplies a signal in a role (R194). -/
def Sgm.fills (m : Sgm) (g : Sig) (role : Position) (c : Fin 48) : Bool :=
  match m.channels[c] with
  | some ch => ch.cfg.sig == g && ch.cfg.role == role
  | none => false

/-- The channel of a tapping entry (R194). -/
def RouteAction.tapped : RouteAction → Option (Fin 48)
  | .tap c | .passTap c => some c
  | .pass | .rewrite _ _ | .drop => none

/-- Step 1: the route entry taps a channel that is not configured. -/
def State.badRoute (s : State) (e : Option RouteEntry) : Bool :=
  match e.bind fun x => x.action.tapped with
  | some c => (s.sgm.channels[c]).isNone
  | none => false

/-- Step 2: the binding of a signal fails. -/
def State.badBinding (s : State) (g : Sig) : Bool :=
  match (s.sgm.binding g).cfg with
  | none => false
  | some b => !(s.sgm.fills g .primary b.primary && b.secondary.all (s.sgm.fills g .secondary))

/-- The kinds that step 3 requires, in its order. -/
def requiredKinds : List GenKind := [.rsc, .bac, .vlc1, .vlc2, .vlc3, .dcm]

/-- The first entry of a list that fails a check, with its index. -/
def firstBad {α : Type} (bad : α → Bool) (xs : List α) : Option Nat := xs.findIdx? bad

/-- The table number that stands for the parameters in a failure (R207). -/
def paramTable : Nat := 15

/-- The first failure of the commit validation, as a table number and an index; none if it passes (R194). -/
def State.commitFailure (s : State) : Option (Nat × Nat) :=
  match firstBad s.badRoute s.routes.toList with
  | some i => some (TableId.route.number, i)
  | none =>
  match firstBad s.badBinding Sig.all with
  | some i => some (TableId.binding.number, i)
  | none =>
  match firstBad (fun k => (s.entryOf k).isNone) requiredKinds with
  | some i => some (TableId.schedule.number, i)
  | none =>
    if Config.traceDepth < s.parN .lag / s.parN .spacing + 2 then some (paramTable, ParamId.lag.row.number)
    else if s.rse.profiles[s.rse.active].valid = false then some ((TableId.profile s.rse.active).number, 0)
    else if s.par .airHigh ≤ s.par .airLow then some (paramTable, ParamId.airHigh.row.number)
    else if s.par .wakeBand ≤ s.par .deadband then some (paramTable, ParamId.wakeBand.row.number)
    else if svcIdOf (s.par .svcReqId) = svcIdOf (s.par .svcRspId) then some (paramTable, ParamId.svcRspId.row.number)
    else none

/-! ### Operating modes (R191 to R193) -/

/-- The written service identifiers become those in effect (R191). -/
def applySvcIds (s : State) : State :=
  s.setSvr { s.svr with reqId := svcIdOf (s.par .svcReqId), rspId := svcIdOf (s.par .svcRspId) }

/-- A change of operating mode with its reports to the steering engine, the brake unit and the combiner (R191, R192). -/
def changeMode (m : Mode) (s : State) : State :=
  let s1 := (if s.mode = .config then applySvcIds s else s).setMode m
  let out := m != .run
  let s2 := blockEvent (request .mode out) (evaluateInput (setHold .mode out s1))
  (reportSource .mode out s2).countSvr fun k => { k with modeChanges := bump k.modeChanges }

def setCommit (r : CommitResult) (s : State) : State := s.setSvr { s.svr with lastCommit := r }

/-- A change of mode out of CONFIG or to RUN: the commit validation is run, and the mode changes if it passes (R193). -/
def commitMode (m : Mode) (s : State) : Reply :=
  match s.commitFailure with
  | some (t, i) =>
    failed t i ((setCommit (.checkFailed t i) s).countSvr fun k => { k with commitFailures := bump k.commitFailures })
  | none => okay (changeMode m (setCommit .ok s))

/-- MODE_REQUEST of RUN or SERVICE (R193). -/
def modeTo (m : Mode) (s : State) : Reply :=
  if s.mode = m then okay s
  else if s.svr.pointer.isSome then refuse .busy s
  else if s.mode = .run then
    if s.standstill && s.bdu.stopBrake == .applied then okay (changeMode m s) else refuse .notStandstill s
  else commitMode m s

/-- MODE_REQUEST (R193). -/
def modeRequest (x : Nat) (s : State) : Reply :=
  if x = 1 then modeTo .run s else if x = 2 then modeTo .service s else refuse .badValue s

/-! ### Profile selection (R46, R48) -/

/-- The start of a crossfade: the target clamped to the narrowed window (R46, R48). -/
def startCrossfade (p : Fin 4) (step : Nat) (s : State) : State :=
  clampTarget (s.setRse { s.rse with xfade := ⟨some p, 0, step⟩ })

/-- PROFILE_SELECT (R48). -/
def profileSelect (profile step : Nat) (s : State) : Reply :=
  if s.mode ≠ .run then refuse .wrongMode s
  else match fin? 4 profile with
    | none => refuse .badValue s
    | some p =>
      if step = 0 then refuse .badValue s
      else if s.rse.xfade.target.isSome then refuse .busy s
      else if p = s.rse.active then okay s
      else if s.rse.profiles[p].valid = false then refuse .badState s
      else okay (startCrossfade p step s)

/-! ### Fault clears and the management inhibit (R52, R100, R151) -/

/-- FAULT_CLEAR(RSE) (R52). -/
def faultClearRse (s : State) : Reply :=
  if s.rse.fault = false then okay s
  else if s.standstill = false then refuse .notStandstill s
  else if s.axleCentred = false then refuse .badState s
  else okay (clearSteerFault s)

/-- FAULT_CLEAR(RHC) (R100). -/
def faultClearRhc (s : State) : Reply := okay (clearKneelFault s)

/-- INHIBIT_SET and INHIBIT_CLEAR (R151). -/
def setInhibit (b : Bool) (s : State) : Reply := okay (reportSource .mgmt b s)

/-! ### The warm restart (R204) -/

/-- The signal monitor, the steering engine, the scheduler, a port and the responder with their WARM values (R25, R57, R174,
R188, R206). -/
def Rse.warm (x : Rse) : Rse := { Rse.cold with issued := x.issued, profiles := x.profiles }

def Txs.warm (x : Txs) : Txs := { Txs.cold with table := x.table }

def Port.warm (x : Port) : Port := { Port.cold with tx := x.tx.map fun t => { t with detached := true } }

def Svr.warm (x : Svr) : Svr := { x with response := none, pointer := none }

/-- The active time of each ACTIVE source brought up to date at clock `now` (R153, R155). -/
def State.broughtUp (s : State) : Vector SourceCtr 12 :=
  ⟨⟨allSources.map fun k =>
      let c := s.ctr.tic.sources[k.idx]
      if (s.source k).active then { c with activeTime := bump32By c.activeTime (s.now - (s.source k).since) } else c⟩,
    by simp [allSources]⟩

/-- The frames emptied from a receive queue counted as DROPPED (R174). -/
def dropReceived (p : PortId) (s : State) : State :=
  s.countPort p fun k => { k with dropped := bump32By k.dropped (s.port p).receive.length }

/-- What a warm restart counts: the frames dropped from the receive queues, the expectations removed, the active times, and a
change of mode (R142, R155, R174, R192; notes/assumptions/17.md). -/
def countRestart (s : State) : State :=
  let s1 := dropReceived .chassis (dropReceived .cab s)
  let s2 := s1.countCft fun k => { k with resetRemovals := bumpBy k.resetRemovals s.cft.length }
  let s3 := s2.countTic fun k => { k with sources := s.broughtUp }
  if s.mode = .run then s3.countSvr fun k => { k with modeChanges := bump k.modeChanges } else s3

/-- Every block takes its WARM values; its tables, its parameters and its counters stand (R204). -/
def warmValues (s : State) : State :=
  { s with
    mode := .service
    sgm := s.sgm.reinit
    rse := s.rse.warm
    bdu := .start s.statics
    rhc := .start s.rhc.offsets
    dic := .start s.dic.table
    cft := []
    tic := .start s.now
    ports := ⟨s.ports.cab.warm, s.ports.chassis.warm⟩
    urgent := []
    txs := s.txs.warm
    svr := s.svr.warm
    lines := ⟨false, false⟩ }

/-- A warm restart (R204): the signal monitor is reinitialised and the quality event of each signal that this makes LOST is delivered
to its readers (R25); then every block takes its WARM values, its counters kept but for what the rules count at the restart
(notes/assumptions/17.md). -/
def warmRestart (s : State) : State := warmValues ((unitResetSgm s).setCtr (countRestart s).ctr)

/-- RESTART (R204). -/
def restartRequest (s : State) : Reply :=
  if s.mode = .config then refuse .wrongMode s
  else if s.standstill = false then refuse .notStandstill s
  else okay (warmRestart s)

/-! ### Unit resets (R58, R205) -/

/-- A crossfade in progress completed by UNIT_RESET(RSE) (R49, R58). -/
def completeCrossfade (s : State) : State :=
  match s.rse.xfade.target with
  | none => s
  | some t =>
    (s.setRse { s.rse with active := t, xfade := { s.rse.xfade with target := none, alpha := 0 } }).countRse fun k =>
      { k with crossfades := bump k.crossfades }

/-- UNIT_RESET(RSE) (R58). -/
def unitResetRse (s : State) : State :=
  let s1 := clearSteerFault (completeCrossfade (clearTrace s))
  s1.setRse { s1.rse with target := 0 }

/-- UNIT_RESET of a unit (R205). -/
def unitReset (unit : Nat) (s : State) : Reply :=
  let reset : Option (State → State) :=
    if unit = 0 then some unitResetSgm
    else if unit = 1 then some unitResetRse
    else if unit = 3 then some (blockEvent unitResetRhc)
    else if unit = 8 then some unitResetTxs
    else none
  match reset with
  | none => refuse .badValue s
  | some g => if s.mode = .service then okay (g s) else refuse .wrongMode s

/-- FAULT_CLEAR of a unit (R203). -/
def faultClear (unit : Nat) (s : State) : Reply :=
  if unit = 1 then faultClearRse s else if unit = 3 then faultClearRhc s else refuse .badValue s

end Sys2Proof.Machine
end

