-- ==== Sys2Proof/Machine/Reads.lean ====
section
/-! DEFINITION. What the service responder reads out: IDENTIFY and the STATE_READ pages (R200, R207), the counters of the counter
groups (R202), SNAPSHOT, COUNTER_READ and COUNTER_CLEAR (R201, R202). What the layouts leave open in a page is chosen here and
said in notes/assumptions/14.md. -/

namespace Sys2Proof.Machine

/-! ### IDENTIFY (R200, R207) -/

/-- The open-table pointer: a table number and an index, absent at 0xFF (R207). -/
def State.pointerBytes (s : State) : List Byte :=
  match s.svr.pointer with
  | some (t, i) => b1 t.number ++ b2 i
  | none => [255, 255, 255]

/-- The last commit result: its kind, and the table and index of a failure, absent at 0xFF (R207; notes/assumptions/15.md). -/
def CommitResult.bytes : CommitResult → List Byte
  | .none => [0, 255, 255, 255]
  | .ok => [1, 255, 255, 255]
  | .checkFailed t i => b1 2 ++ b1 t ++ b2 i

/-- The data of IDENTIFY (R207). -/
def State.identifyData (s : State) : List Byte :=
  b2 Config.identityCode ++ b1 s.mode.ctorIdx ++ s.svr.reqId.bytes ++ s.svr.rspId.bytes ++ s.pointerBytes
    ++ flag s.svr.snapshot.isSome ++ b2 s.svr.snapNumber ++ s.svr.lastCommit.bytes

/-! ### STATE_READ (R200, R207) -/

/-- An optional two-byte quantity, absent at 0xFF. -/
def optB2 (x : Option Nat) : List Byte := b2 (x.getD 65535)

/-- An optional four-byte quantity, absent at 0xFF. -/
def optB4 (x : Option Nat) : List Byte := b4 (x.getD 4294967295)

/-- A set (chapter 11). -/
def setByte (x : List Bool) : List Byte := b1 (setWeight x)

/-- STATE_READ(SGM), the page of a signal (R200). That the primary channel comes before the secondary is the model's, DESIGN CHOICE,
unsafe (notes/assumptions/14.md). -/
def State.sgmPage (s : State) (g : Sig) : List Byte :=
  let b := s.sgm.binding g
  let r := s.reading g
  i2 r.value ++ b1 r.quality.ctorIdx ++ b1 b.run.selection.ctorIdx ++ flag b.run.disagree
    ++ optByte (b.cfg.map fun c => (s.sgm.chanState g c.primary).ctorIdx)
    ++ optByte (b.cfg.bind fun c => c.secondary.map fun c2 => (s.sgm.chanState g c2).ctorIdx)

/-- The stamp and front angle of a sample, absent at 0xFF where there is none. -/
def sampleBytes : Option Sample → List Byte
  | some x => b2 x.stamp.toNat ++ i2 x.angle
  | none => [255, 255, 255, 255]

/-- STATE_READ(RSE), page 0 (R55). -/
def State.rsePage0 (s : State) : List Byte :=
  b1 s.traceState.ctorIdx ++ b2 s.rse.trace.length
    ++ flag s.rse.odoNow.isNone ++ optB2 (s.rse.odoNow.map (·.toNat))
    ++ sampleBytes s.rse.trace.head? ++ sampleBytes s.rse.trace.getLast?
    ++ b1 s.steerMode.ctorIdx ++ setByte s.rse.holds.toList ++ i2 s.rse.target ++ i2 s.rse.issued
    ++ b1 s.rse.active ++ flag s.rse.fault ++ b2 s.rse.mismatchRun ++ flag s.rse.jackknife

/-- STATE_READ(RSE), page 1: the profile states and the crossfade record (R55, R207). -/
def State.rsePage1 (s : State) : List Byte :=
  s.rse.profiles.toList.flatMap (fun p => flag p.valid)
    ++ optByte (s.rse.xfade.target.map (·.val)) ++ b2 s.rse.xfade.alpha ++ b2 s.rse.xfade.step

/-- The expectation kinds in the order of R131. -/
def expKind : ExpKey → Nat
  | .doorLock _ => 0
  | .stopApply => 1
  | .stopRelease => 2

/-- The outstanding stop-brake expectation in the order in which chapter 3 lists its values: none, STOP_APPLY, STOP_RELEASE (R207;
notes/assumptions/14.md). -/
def outstandingCode : Option ExpKey → Nat
  | some .stopApply => 1
  | some .stopRelease => 2
  | some (.doorLock _) | none => 0

/-- STATE_READ(BDU) (R78). -/
def State.bduPage (s : State) : List Byte :=
  b2 s.bdu.demand ++ flag s.bdu.backup
    ++ b2 s.bdu.weights.f ++ b2 s.bdu.weights.m ++ b2 s.bdu.weights.r ++ flag s.weightsLatched ++ flag s.sumZero
    ++ b2 (s.ratio .f) ++ b2 (s.ratio .m) ++ b2 (s.ratio .r) ++ flag s.rse.jackknife
    ++ b2 (s.brakeTarget .f) ++ b2 (s.brakeTarget .m) ++ b2 (s.brakeTarget .r)
    ++ b1 (s.brakeCause .f).ctorIdx ++ b1 (s.brakeCause .m).ctorIdx ++ b1 (s.brakeCause .r).ctorIdx
    ++ flag s.bdu.stopBrake.holding ++ setByte s.bdu.req.toList ++ b1 s.bdu.stopBrake.ctorIdx
    ++ b1 (outstandingCode s.bdu.stopBrake.outstanding) ++ flag s.bdu.drag

/-- A corner's fields (R102): a pending pulse is its valve action and its duration (R81, R208), absent at 0xFF where there is none
(notes/assumptions/14.md). -/
def CornerRec.bytes (r : CornerRec) : List Byte :=
  b1 r.state.ctorIdx ++ i2 r.target ++ b2 r.quiet ++ flag r.wake.isRunning
    ++ match r.pulse with
      | some p => b1 p.dir.action.ctorIdx ++ b2 p.ms
      | none => [255, 255, 255]

/-- STATE_READ(RHC), page 0: the six corners, all fields of one before those of the next, from FL to RR (R102); this arrangement is the
model's, DESIGN CHOICE, unsafe (notes/assumptions/14.md). -/
def State.rhcPage0 (s : State) : List Byte := s.rhc.corners.toList.flatMap CornerRec.bytes

/-- STATE_READ(RHC), page 1: the other fields of R102, the timers that run as a flag for the kneel timer and one for the raise timer,
which is the model's form, DESIGN CHOICE, unsafe (notes/assumptions/14.md). Air state OK is 0 and LOW is 1. -/
def State.rhcPage1 (s : State) : List Byte :=
  b1 s.rhc.level.ctorIdx ++ s.rhc.offsets.toList.flatMap i2 ++ b1 s.rhc.kneel.ctorIdx ++ b1 s.rhc.pending.ctorIdx
    ++ b1 s.rhc.origin.ctorIdx ++ flag s.rhc.fault ++ flag s.rhc.incomplete
    ++ flag s.rhc.kneelTimer.isRunning ++ flag s.rhc.raiseTimer.isRunning ++ flag s.rhc.freeze ++ b1 s.rhc.lastPos.ctorIdx
    ++ b2 s.rhc.airEstimate ++ flag (!s.rhc.airOk)

/-- The condition of a dwell timer in one byte: stopped 0, running 1, expired 2 (R107). R128 asks for which timers run with the dwell
timer's expired condition and gives no code for it: the merge of running and expired into one byte is the model's, DESIGN CHOICE,
unsafe (notes/assumptions/14.md). -/
def DwellTimer.code : DwellTimer → Nat
  | .stopped => 0
  | .running _ => 1
  | .expired => 2

/-- A door's fields (R128). Its timers close them: a flag for the prep timer, the byte of the dwell timer, a flag for the warn timer;
their form and order are the model's, DESIGN CHOICE, unsafe (notes/assumptions/14.md). -/
def State.doorBytes (s : State) (d : Door) : List Byte :=
  let r := s.door d
  (s.dic.table.get d).bytes ++ b1 r.state.ctorIdx ++ b1 r.action.ctorIdx ++ flag r.relPending ++ b2 r.obstructions
    ++ flag r.suspended ++ flag r.resetSeen ++ flag r.statusUnknown ++ flag r.faultFlag
    ++ flag r.prep.isRunning ++ b1 r.dwell.code ++ flag r.warn.isRunning

/-- The six members of the driver record, in the order of R110. -/
def DriverRec.toList (r : DriverRec) : List Bool := r.release.toList ++ [r.closeAll, r.emergencyReset]

/-- STATE_READ(DIC), page 1: doors 3 and 4, the driver record as one set, and the four conditions of R109 in its order (R128;
notes/assumptions/14.md). -/
def State.dicPage1 (s : State) : List Byte :=
  s.doorBytes .d3 ++ s.doorBytes .d4 ++ setByte s.dic.last.toList
    ++ flag s.someUnlocked ++ flag s.someRearUnlocked ++ flag (!s.someUnlocked) ++ flag s.someEmergency

/-- The unit of an expectation (R131). -/
def expUnit : ExpKey → Nat
  | .doorLock .d1 => 1
  | .doorLock .d2 => 2
  | .doorLock .d3 => 3
  | .doorLock .d4 => 4
  | .stopApply | .stopRelease => 0

/-- The placer of an expectation: DIC 0, BDU 1 (R131). -/
def expPlacer : ExpKey → Nat
  | .doorLock _ => 0
  | .stopApply | .stopRelease => 1

/-- STATE_READ(CFT) (R140). -/
def State.cftPage (s : State) : List Byte :=
  b2 s.cft.length ++ flag s.almostFull
    ++ s.cft.flatMap fun e =>
        b1 (expKind e.key) ++ b1 (expUnit e.key) ++ b1 (expPlacer e.key) ++ b4 (e.due - s.now)

/-- STATE_READ(TIC) (R154). The state of a source is named, ACTIVE 0 or INACTIVE 1, in the order in which the table of chapter 7 lists the
two (R207, the enumerations of chapter 11). -/
def State.ticPage (s : State) : List Byte :=
  allSources.flatMap (fun k => flag (!(s.source k).active)) ++ b1 (s.parN .enableMask)
    ++ b1 s.tic.combined.ctorIdx ++ optB4 (s.tic.gapTimer.left s.now) ++ flag s.limitInForce ++ flag s.lines.tractionPermit

/-- One port's fields (R173). Port state UP is 0 and DOWN is 1. -/
def State.portBytes (s : State) (p : PortId) : List Byte :=
  let q := s.port p
  flag (!q.up) ++ b2 q.abandons ++ flag q.retryReady ++ optB4 (q.recovery.left s.now)
    ++ b2 q.receive.length ++ b2 q.forward.length
    ++ (match p with
      | .chassis => b2 s.urgent.length
      | .cab => [])
    ++ flag q.scheduled.isSome
    ++ (match p with
      | .cab => flag s.svr.response.isSome
      | .chassis => [])
    ++ flag q.tx.isSome ++ optByte (q.tx.map fun t => t.source.ctorIdx)

/-- STATE_READ(FRT): every field of the cab port, then every field of the chassis port, then the router's. R173 says "for each port" and
gives no order of the ports: the order is the model's, DESIGN CHOICE, unsafe (notes/assumptions/14.md). -/
def State.frtPage (s : State) : List Byte :=
  s.portBytes .cab ++ s.portBytes .chassis ++ b1 (s.parN .defaultCab) ++ b1 (s.parN .defaultChassis)
    ++ b2 (s.routes.toList.filter (·.isSome)).length

/-- STATE_READ(TXS), page 0 (R186). That each kind's two fields stand together, kind after kind in the order of R177, is the model's,
DESIGN CHOICE, unsafe (notes/assumptions/14.md). -/
def State.txsPage0 (s : State) : List Byte :=
  b2 s.txs.cycle ++ optB2 (s.txs.slot.map (·.val))
    ++ allKinds.flatMap fun k => b2 (s.txs.alive[k.idx]).toNat ++ flag (s.entryOf k).isSome

/-- STATE_READ(TXS), page 1: the repeat flag of each configured entry, absent at 0xFF for an EMPTY one (R186). -/
def State.txsPage1 (s : State) : List Byte :=
  schedIndices.flatMap fun i => if s.txs.table[i].isSome then flag s.txs.repeats[i] else [255]

/-- STATE_READ(SVR): the response buffer is reported occupied, by this answer (R200). -/
def State.svrPage (s : State) : List Byte :=
  b1 s.mode.ctorIdx ++ s.pointerBytes ++ flag true ++ s.svr.lastCommit.bytes ++ b2 s.svr.snapNumber

/-- The pages of a unit in order (R207), none for a number that names no unit. -/
def State.pages (s : State) (unit : Nat) : Option (List (List Byte)) :=
  match unit with
  | 0 => some (Sig.all.map s.sgmPage)
  | 1 => some [s.rsePage0, s.rsePage1]
  | 2 => some [s.bduPage]
  | 3 => some [s.rhcPage0, s.rhcPage1]
  | 4 => some [s.doorBytes .d1 ++ s.doorBytes .d2, s.dicPage1]
  | 5 => some [s.cftPage]
  | 6 => some [s.ticPage]
  | 7 => some [s.frtPage]
  | 8 => some [s.txsPage0, s.txsPage1]
  | 9 => some [s.svrPage]
  | _ => none

/-- STATE_READ (R200). -/
def stateRead (unit page : Nat) (s : State) : Reply :=
  match s.pages unit with
  | none => refuse .badValue s
  | some ps =>
    match ps[page]? with
    | none => refuse .badIndex s
    | some p => okWith p s

/-! ### The counters of a group in order (R207) -/

def ChanCtr.toList (c : ChanCtr) : List Nat :=
  [c.accepted, c.checkErrors, c.sequenceErrors, c.repeatErrors, c.rangeErrors, c.suspectEntries, c.staleEntries]

def SgmCtr.toList (c : SgmCtr) : List Nat :=
  c.chans.toList.flatMap ChanCtr.toList ++ c.binds.toList.flatMap (fun b => [b.switches, b.disagreements])
    ++ [c.unconfiguredTaps]

def RseCtr.toList (c : RseCtr) : List Nat :=
  [c.discontinuities, c.overflows, c.expiries, c.steerFaults, c.jackknifeOnsets, c.crossfades]

def BduCtr.toList (c : BduCtr) : List Nat :=
  [c.applications, c.applyFaults, c.lateConfirmations, c.sags, c.drags, c.backupOnsets]

def RhcCtr.toList (c : RhcCtr) : List Nat :=
  c.corners.toList.flatMap (fun k => [k.excursions, k.offEntries])
    ++ [c.freezes, c.discardedRaises, c.refusedHigh, c.highReturns, c.refusedKneels, c.reversals, c.cancellations,
        c.incompleteKneels, c.kneelFaults]

def DoorCtr.toList (c : DoorCtr) : List Nat :=
  [c.releases, c.overrideReleases, c.prepTimeouts, c.cancellations, c.obstructions, c.suspensions, c.faults, c.vents,
   c.foundUnlocked]

def KindCtr.toList (c : KindCtr) : List Nat := [c.placed, c.satisfied, c.timedOut, c.evicted]

def CftCtr.toList (c : CftCtr) : List Nat :=
  c.doorLock.toList ++ c.stopApply.toList ++ c.stopRelease.toList
    ++ [c.cancelled, c.cancelMisses, c.superseded, c.almostFullOnsets, c.resetRemovals, c.peak]

def TicCtr.toList (c : TicCtr) : List Nat :=
  c.sources.toList.flatMap (fun k => [k.activations, k.activeTime])
    ++ [c.inhibitOnsets, c.permitOnsets, c.rewritten, c.inhibitCuts, c.limitCaps, c.checkDrops, c.shortFrames]

def PortCtr.toList (c : PortCtr) : List Nat :=
  [c.received, c.forwarded, c.consumed, c.dropped, c.rxOverflow, c.fwdOverflow, c.clash, c.txSent, c.txAbandoned]

def UrgentCtr.toList (c : UrgentCtr) : List Nat := [c.builds, c.refusals, c.noEntry]

/-- The counters of one generated kind; the urgent counters stand within the instances BAC and DCM (notes/assumptions/16.md). -/
def TxsCtr.ofKind (c : TxsCtr) (k : GenKind) : List Nat :=
  [c.scheduled[k.idx], c.deferrals[k.idx]]
    ++ match k with
      | .bac => c.urgentBac.toList
      | .dcm => c.urgentDcm.toList
      | _ => []

def TxsCtr.toList (c : TxsCtr) : List Nat := allKinds.flatMap c.ofKind

def SvrCtr.toList (c : SvrCtr) : List Nat :=
  [c.requestsTaken, c.refusals, c.busyDrops, c.shortRequests, c.commitFailures, c.modeChanges]

/-- The counters of each of the groups 0 to 9 (R207). -/
def Counters.groups (c : Counters) : List (List Nat) :=
  [c.sgm.toList, c.rse.toList, c.bdu.toList, c.rhc.toList, c.dic.toList.flatMap DoorCtr.toList, c.cft.toList, c.tic.toList,
   c.frt.cab.toList ++ c.frt.chassis.toList, c.txs.toList, c.svr.toList]

/-- The number of the group that stands for all (R207). -/
def groupAll : Nat := 255

/-- The counters of a group in the order of their numbers, none for a number that names no group (R202, R207). -/
def Counters.group (c : Counters) (n : Nat) : Option (List Nat) :=
  if n = groupAll then some c.groups.flatten else c.groups[n]?

/-! ### SNAPSHOT, COUNTER_READ and COUNTER_CLEAR (R201, R202) -/

/-- The copy a SNAPSHOT makes: the active time of an ACTIVE source carries the time since its latest change (R153, R201). -/
def State.copy (s : State) : Snapshot where
  counters := { s.ctr with tic := { s.ctr.tic with sources := s.broughtUp } }
  receiveOccupancy := ⟨s.ports.cab.receive.length, s.ports.chassis.receive.length⟩
  trackerOccupancy := s.cft.length

/-- SNAPSHOT (R201). -/
def snapshotRequest (s : State) : Reply :=
  let n := (s.svr.snapNumber + 1) % 65536
  okWith (b2 n) (s.setSvr { s.svr with snapNumber := n, snapshot := some s.copy })

/-- The largest number of counters in one response (R207). -/
def countersPerRead : Nat := 14

/-- COUNTER_READ (R201). -/
def counterRead (group first : Nat) (s : State) : Reply :=
  match s.svr.snapshot with
  | none => refuse .badState s
  | some c =>
    match c.counters.group group with
    | none => refuse .badValue s
    | some xs =>
      if xs.length ≤ first then refuse .badIndex s
      else okWith (b2 s.svr.snapNumber ++ ((xs.drop first).take countersPerRead).flatMap b4) s

/-- The tracker's counters cleared: the peak becomes the occupancy (R141). -/
def clearTracker (s : State) : State := s.countCft fun _ => { CftCtr.zero with peak := s.cft.length }

/-- The traction counters cleared: an ACTIVE source accrues from the moment of the clear (R153). -/
def clearTraction (s : State) : State :=
  (s.setTic { s.tic with sources := vmap (fun x => if x.active then { x with since := s.now } else x) s.tic.sources }).countTic
    fun _ => .zero

/-- One group's live counters cleared (R202). -/
def clearGroup (n : Nat) (s : State) : State :=
  match n with
  | 0 => s.countSgm fun _ => .zero
  | 1 => s.countRse fun _ => {}
  | 2 => s.countBdu fun _ => {}
  | 3 => s.countRhc fun _ => .zero
  | 4 => s.setCtr { s.ctr with dic := ⟨{}, {}, {}, {}⟩ }
  | 5 => clearTracker s
  | 6 => clearTraction s
  | 7 => s.setCtr { s.ctr with frt := ⟨{}, {}⟩ }
  | 8 => s.countTxs fun _ => .zero
  | 9 => s.countSvr fun _ => {}
  | _ => s

/-- COUNTER_CLEAR (R202). -/
def counterClear (group : Nat) (s : State) : Reply :=
  if group = groupAll then okay ([0, 1, 2, 3, 4, 5, 6, 7, 8, 9].foldl (fun t n => clearGroup n t) s)
  else if group < 10 then okay (clearGroup group s)
  else refuse .badValue s

end Sys2Proof.Machine
end

