-- ==== Sys2Proof/Machine/Service.lean ====
section
/-! DEFINITION. The service responder's exchange (section 10.1): the requests, the bytes of a request frame, the response frame,
and the take of a request. -/

namespace Sys2Proof.Machine

/-- A service request: its code with its parameters (R207). FAULT_CLEAR and UNIT_RESET carry a unit number. -/
inductive Request where
  | identify
  | modeRequest (mode : Nat)
  | paramRead (number : Nat)
  | paramWrite (number : Nat) (value : Int)
  | tableOpen (table index : Nat)
  | tableWrite (record : List Byte)
  | tableRead
  | tableClose
  | profileSelect (profile step : Nat)
  | stateRead (unit page : Nat)
  | snapshot
  | counterRead (group first : Nat)
  | counterClear (group : Nat)
  | faultClear (unit : Nat)
  | inhibitSet
  | inhibitClear
  | restart
  | unitReset (unit : Nat)
  deriving DecidableEq, Repr

/-- The code of a request (R207). -/
def Request.code : Request → Byte
  | .identify => 0x01
  | .modeRequest _ => 0x02
  | .paramRead _ => 0x03
  | .paramWrite _ _ => 0x04
  | .tableOpen _ _ => 0x05
  | .tableWrite _ => 0x06
  | .tableRead => 0x07
  | .tableClose => 0x08
  | .profileSelect _ _ => 0x09
  | .stateRead _ _ => 0x0A
  | .snapshot => 0x0B
  | .counterRead _ _ => 0x0C
  | .counterClear _ => 0x0D
  | .faultClear _ => 0x0E
  | .inhibitSet => 0x0F
  | .inhibitClear => 0x10
  | .restart => 0x11
  | .unitReset _ => 0x12

/-- The reply to a request at its take (R190). -/
def Request.handle (q : Request) (s : State) : Reply :=
  match q with
  | .identify => okWith s.identifyData s
  | .modeRequest m => Machine.modeRequest m s
  | .paramRead n => Machine.paramRead n s
  | .paramWrite n v => Machine.paramWrite n v s
  | .tableOpen t i => Machine.tableOpen t i s
  | .tableWrite p => Machine.tableWrite p s
  | .tableRead => Machine.tableRead s
  | .tableClose => Machine.tableClose s
  | .profileSelect p k => Machine.profileSelect p k s
  | .stateRead u p => Machine.stateRead u p s
  | .snapshot => snapshotRequest s
  | .counterRead g i => Machine.counterRead g i s
  | .counterClear g => Machine.counterClear g s
  | .faultClear u => Machine.faultClear u s
  | .inhibitSet => setInhibit true s
  | .inhibitClear => setInhibit false s
  | .restart => restartRequest s
  | .unitReset u => Machine.unitReset u s

/-! ### The bytes of a request frame (R190, R207) -/

/-- The length of a request frame of a code, none for an unknown code (R207). -/
def requestLength (code : Nat) : Option Nat :=
  match code with
  | 0x01 => some 2
  | 0x02 => some 3
  | 0x03 => some 4
  | 0x04 => some 8
  | 0x05 => some 5
  | 0x06 => some 18
  | 0x07 => some 2
  | 0x08 => some 2
  | 0x09 => some 4
  | 0x0A => some 4
  | 0x0B => some 2
  | 0x0C => some 5
  | 0x0D => some 3
  | 0x0E => some 3
  | 0x0F => some 2
  | 0x10 => some 2
  | 0x11 => some 2
  | 0x12 => some 3
  | _ => none

/-- The request of a known code whose parameters start at byte 2 of the payload (R207). -/
def requestOf (code : Nat) (p : List Byte) : Option Request :=
  match code with
  | 0x01 => some .identify
  | 0x02 => some (.modeRequest (byteAt p 2))
  | 0x03 => some (.paramRead (word16At p 2))
  | 0x04 => some (.paramWrite (word16At p 2) (signedOf 32 (word32At p 4)))
  | 0x05 => some (.tableOpen (byteAt p 2) (word16At p 3))
  | 0x06 => some (.tableWrite (p.drop 2))
  | 0x07 => some .tableRead
  | 0x08 => some .tableClose
  | 0x09 => some (.profileSelect (byteAt p 2) (byteAt p 3))
  | 0x0A => some (.stateRead (byteAt p 2) (byteAt p 3))
  | 0x0B => some .snapshot
  | 0x0C => some (.counterRead (byteAt p 2) (word16At p 3))
  | 0x0D => some (.counterClear (byteAt p 2))
  | 0x0E => some (.faultClear (byteAt p 2))
  | 0x0F => some .inhibitSet
  | 0x10 => some .inhibitClear
  | 0x11 => some .restart
  | 0x12 => some (.unitReset (byteAt p 2))
  | _ => none

/-- The reply to the request that a payload of at least two bytes carries, or the status of the code or length check it fails
(R190). -/
def handlePayload (p : List Byte) (s : State) : Reply :=
  match requestLength (byteAt p 0), requestOf (byteAt p 0) p with
  | some n, some q => if p.length = n then q.handle s else refuse .badLength s
  | _, _ => refuse .unknownRequest s

/-! ### The take (R189) -/

/-- The payload of a response (R207). -/
def responsePayload (code tag : Byte) (st : Status) (data : List Byte) : List Byte :=
  [code + 0x80, tag, BitVec.ofNat 8 st.ctorIdx] ++ data

/-- The response is counted, formed with the response identifier `rsp` that stood at the take, and offered (R189, R191;
notes/assumptions/8.md). -/
def offerResponse (rsp : SvcId) (code tag : Byte) (r : Reply) : State :=
  let s1 := r.state.countSvr fun k => { k with
    requestsTaken := bump k.requestsTaken
    refusals := if r.status = .ok then k.refusals else bump k.refusals }
  placeFrame .cab .response ⟨rsp.kind, rsp.ident, responsePayload code tag r.status r.data⟩ s1

/-- A take: a request that meets an occupied response buffer is discarded and counted; any other has its effect and is answered
(R189). -/
def takeRequest (code tag : Byte) (h : State → Reply) (s : State) : State :=
  if s.svr.response.isSome then s.countSvr fun k => { k with busyDrops := bump k.busyDrops }
  else offerResponse s.svr.rspId code tag (h s)

/-- The take of a request by its code. -/
def serve (q : Request) (tag : Byte) (s : State) : State := takeRequest q.code tag q.handle s

/-- The responder takes a frame's payload (R189, R190). -/
def takePayload (p : List Byte) (s : State) : State :=
  match p with
  | code :: tag :: _ => takeRequest code tag (handlePayload p) s
  | _ =>
    if s.svr.response.isSome then s.countSvr fun k => { k with busyDrops := bump k.busyDrops }
    else s.countSvr fun k => { k with shortRequests := bump k.shortRequests }

end Sys2Proof.Machine
end

