-- ==== Sys2Proof/Machine/Router.lean ====
section
/-! DEFINITION. The frame router (chapter 8): the classification of a frame taken from a receive queue. -/

namespace Sys2Proof.Machine

/-- A frame carries an identifier kind and an identifier. -/
def frameHas (f : Frame) (k : IdKind) (i : Ident) : Bool := f.kind == k && f.ident == i

/-- A configured entry's arrival port admits the port (R159). -/
def ArrivalPort.admits (a : ArrivalPort) (p : PortId) : Bool :=
  match a with
  | .any => true
  | .cab => p == .cab
  | .chassis => p == .chassis

/-- A frame that arrived on `p` matches a route entry (R159). -/
def RouteEntry.matchesFrame (e : RouteEntry) (p : PortId) (f : Frame) : Bool :=
  e.arrival.admits p && f.kind == e.kind && (f.ident ^^^ e.ident) &&& e.mask == 0

/-- The matching entry with the lowest index (R159). -/
def State.lookup (s : State) (p : PortId) (f : Frame) : Option RouteEntry :=
  s.routes.toList.findSome? fun x => match x with
    | some e => if e.matchesFrame p f then some e else none
    | none => none

/-- The frame is a clash (R161). -/
def State.clashes (s : State) (p : PortId) (f : Frame) : Bool :=
  (p == .chassis && frameHas f s.svr.reqId.kind s.svr.reqId.ident)
    || (p == .cab && frameHas f s.svr.rspId.kind s.svr.rspId.ident)
    || s.txs.table.toList.any fun x => match x with
        | some e => e.kind.port == p && frameHas f e.idKind e.ident
        | none => false

/-- The default action parameter of a port; its value 1 is PASS (R159, R210). -/
def defaultParam : PortId → ParamId
  | .cab => .defaultCab
  | .chassis => .defaultChassis

def countDropped (p : PortId) (s : State) : State := s.countPort p fun k => { k with dropped := bump32 k.dropped }

def countConsumed (p : PortId) (s : State) : State := s.countPort p fun k => { k with consumed := bump32 k.consumed }

/-- The action of the lookup carried out (R162, R163). Under PASS_TAP the tap is made first (notes/assumptions/19.md). -/
def routeAction (a : RouteAction) (p : PortId) (f : Frame) (s : State) : State :=
  match a with
  | .pass => forwardFrame p f s
  | .tap c => tapFrame c f (countConsumed p s)
  | .passTap c => forwardFrame p f (tapFrame c f s)
  | .rewrite torqueAt checkAt =>
    match rewriteTorque f torqueAt checkAt s with
    | (none, s1) => countDropped p s1
    | (some g, s1) => forwardFrame p g s1
  | .drop => countDropped p s

/-- The action the lookup gives a frame (R159, R160). -/
def State.actionFor (s : State) (p : PortId) (f : Frame) : RouteAction :=
  match s.lookup p f with
  | some e => e.action
  | none => if s.par (defaultParam p) = 1 then .pass else .drop

/-- The frame is a service request: it arrived on the cab port with the service request identifier in effect (R160). -/
def State.isRequest (s : State) (p : PortId) (f : Frame) : Bool :=
  p == .cab && frameHas f s.svr.reqId.kind s.svr.reqId.ident

/-- A frame taken from the receive queue of `p` is classified (R160 to R163). -/
def classify (p : PortId) (f : Frame) (s : State) : State :=
  if s.isRequest p f then takePayload f.payload (countConsumed p s)
  else if s.mode = .config then countDropped p s
  else if s.clashes p f then
    s.countPort p fun k => { k with dropped := bump32 k.dropped, clash := bump32 k.clash }
  else routeAction (s.actionFor p f) p f s

/-- The router takes the head frame of a receive queue; an empty queue gives it none (R156, R160). -/
def classifyHead (p : PortId) (s : State) : State :=
  match (s.port p).receive with
  | [] => s
  | f :: rest => classify p f (s.setPort p { s.port p with receive := rest })

end Sys2Proof.Machine
end

