-- ==== Sys2Proof/Machine/EventCommands.lean ====
section
/-! DEFINITION. The meanings of the sixteen event commands: the cold reset, the frames and transmissions of the ports, and the
expiries of the timers. An expiry command is the event that the timer runs out: it acts on a timer that runs and whose whole duration
has passed, and has no effect on any other (R1, R2; notes/assumptions/2.md and 3.md). -/

namespace Sys2Proof.Machine

/-- The outcome of a command of the PE36. -/
abbrev Outcome := Host.Outcome State Fault Refusal

/-- COLD_RESET: every table, parameter, state and counter takes its cold value (R206). The commands still waiting and the order of
readers are the model's and stay (notes/assumptions/34.md). -/
def execColdReset (s : State) : Outcome := .next { State.reset with pending := s.pending, readerPref := s.readerPref }

/-- FRAME_RECEPTION (R156). -/
def execFrameReception (p : PortId) (f : Frame) (s : State) : Outcome := .next (receiveFrame p f s)

/-- FRAME_CLASSIFICATION (R160). -/
def execFrameClassification (p : PortId) (s : State) : Outcome := .next (classifyHead p s)

/-- TRANSMISSION_END (R170). -/
def execTransmissionEnd (p : PortId) (o : TxOutcome) (s : State) : Outcome := .next (endTransmission p o s)

/-- RECOVERY_TIMER_EXPIRY (R172). -/
def execRecoveryTimerExpiry (p : PortId) (s : State) : Outcome := .next (recoveryExpiry p s)

/-- SLOT_ARRIVAL (R176, R179). -/
def execSlotArrival (s : State) : Outcome := .next (slotReached s)

/-- FRESHNESS_TIMER_EXPIRY (R16). -/
def execFreshnessTimerExpiry (c : Fin 48) (s : State) : Outcome := .next (freshnessExpired c s)

/-- STALE_TIMER_EXPIRY (R17). -/
def execStaleTimerExpiry (c : Fin 48) (s : State) : Outcome := .next (staleExpired c s)

/-- WAKE_TIMER_EXPIRY (R83), an event at the ride height controller. -/
def execWakeTimerExpiry (k : Corner) (s : State) : Outcome := .next (blockEvent (wakeExpired k) s)

/-- KNEEL_TIMER_EXPIRY (R97), an event at the ride height controller. -/
def execKneelTimerExpiry (s : State) : Outcome := .next (blockEvent kneelTimerExpired s)

/-- RAISE_TIMER_EXPIRY (R98), an event at the ride height controller. -/
def execRaiseTimerExpiry (s : State) : Outcome := .next (blockEvent raiseTimerExpired s)

/-- PREP_TIMER_EXPIRY (R114), an event at the door interlock. -/
def execPrepTimerExpiry (d : Door) (s : State) : Outcome := .next (blockEvent (prepExpired d) s)

/-- DWELL_TIMER_EXPIRY (R117), an event at the door interlock. -/
def execDwellTimerExpiry (d : Door) (s : State) : Outcome := .next (blockEvent (dwellExpired d) s)

/-- WARN_TIMER_EXPIRY (R118), an event at the door interlock. -/
def execWarnTimerExpiry (d : Door) (s : State) : Outcome := .next (blockEvent (warnExpired d) s)

/-- DEADLINE_EXPIRY (R137), an event at the confirmation tracker. -/
def execDeadlineExpiry (k : ExpKey) (s : State) : Outcome := .next (blockEvent (expire k) s)

/-- The release-gap timer expires in GAP (R146). -/
def gapExpired (s : State) : State :=
  if s.tic.combined = .gap ∧ s.tic.gapTimer.ended s.now = true then s.enterPermitted else s

/-- RELEASE_GAP_EXPIRY (R146). -/
def execReleaseGapExpiry (s : State) : Outcome := .next (gapExpired s)

end Sys2Proof.Machine
end

