-- ==== Sys2Proof/Machine/ServiceCommands.lean ====
section
/-! DEFINITION. The meanings of the twenty-two service requests as commands: each is its take by the service responder (R189), at
which the request has its effect and is answered. The frame that carries it on the bus is FRAME_CLASSIFICATION's
(notes/assumptions/7.md). -/

namespace Sys2Proof.Machine

/-- IDENTIFY (R200). -/
def execIdentify (tag : Byte) (s : State) : Outcome := .next (serve .identify tag s)

/-- MODE_REQUEST (R193). -/
def execModeRequest (tag : Byte) (mode : Byte) (s : State) : Outcome := .next (serve (.modeRequest mode.toNat) tag s)

/-- PARAM_READ (R199). -/
def execParamRead (tag : Byte) (number : BitVec 16) (s : State) : Outcome := .next (serve (.paramRead number.toNat) tag s)

/-- PARAM_WRITE (R199). -/
def execParamWrite (tag : Byte) (number : BitVec 16) (value : BitVec 32) (s : State) : Outcome := .next (serve (.paramWrite number.toNat value.toInt) tag s)

/-- TABLE_OPEN (R196). -/
def execTableOpen (tag : Byte) (table : Byte) (index : BitVec 16) (s : State) : Outcome := .next (serve (.tableOpen table.toNat index.toNat) tag s)

/-- TABLE_WRITE (R197). -/
def execTableWrite (tag : Byte) (record : Vector Byte 16) (s : State) : Outcome := .next (serve (.tableWrite record.toList) tag s)

/-- TABLE_READ (R197). -/
def execTableRead (tag : Byte) (s : State) : Outcome := .next (serve .tableRead tag s)

/-- TABLE_CLOSE (R198). -/
def execTableClose (tag : Byte) (s : State) : Outcome := .next (serve .tableClose tag s)

/-- PROFILE_SELECT (R48). -/
def execProfileSelect (tag : Byte) (profile step : Byte) (s : State) : Outcome := .next (serve (.profileSelect profile.toNat step.toNat) tag s)

/-- STATE_READ (R200). -/
def execStateRead (tag : Byte) (unit page : Byte) (s : State) : Outcome := .next (serve (.stateRead unit.toNat page.toNat) tag s)

/-- SNAPSHOT (R201). -/
def execSnapshot (tag : Byte) (s : State) : Outcome := .next (serve .snapshot tag s)

/-- COUNTER_READ (R201). -/
def execCounterRead (tag : Byte) (group : Byte) (first : BitVec 16) (s : State) : Outcome := .next (serve (.counterRead group.toNat first.toNat) tag s)

/-- COUNTER_CLEAR (R202). -/
def execCounterClear (tag : Byte) (group : Byte) (s : State) : Outcome := .next (serve (.counterClear group.toNat) tag s)

/-- FAULT_CLEAR(RSE) (R52, R203). -/
def execFaultClearRse (tag : Byte) (s : State) : Outcome := .next (serve (.faultClear 1) tag s)

/-- FAULT_CLEAR(RHC) (R100, R203). -/
def execFaultClearRhc (tag : Byte) (s : State) : Outcome := .next (serve (.faultClear 3) tag s)

/-- INHIBIT_SET (R151). -/
def execInhibitSet (tag : Byte) (s : State) : Outcome := .next (serve .inhibitSet tag s)

/-- INHIBIT_CLEAR (R151). -/
def execInhibitClear (tag : Byte) (s : State) : Outcome := .next (serve .inhibitClear tag s)

/-- RESTART (R204). -/
def execRestart (tag : Byte) (s : State) : Outcome := .next (serve .restart tag s)

/-- UNIT_RESET(RSE) (R58, R205). -/
def execUnitResetRse (tag : Byte) (s : State) : Outcome := .next (serve (.unitReset 1) tag s)

/-- UNIT_RESET(RHC) (R105, R205). -/
def execUnitResetRhc (tag : Byte) (s : State) : Outcome := .next (serve (.unitReset 3) tag s)

/-- UNIT_RESET(SGM) (R25, R205). -/
def execUnitResetSgm (tag : Byte) (s : State) : Outcome := .next (serve (.unitReset 0) tag s)

/-- UNIT_RESET(TXS) (R175, R188, R205). -/
def execUnitResetTxs (tag : Byte) (s : State) : Outcome := .next (serve (.unitReset 8) tag s)

end Sys2Proof.Machine
end

