-- ==== Sys2Proof/Machine/Dispatch.lean ====
section
/-! DEFINITION. The effect of each command on everything but the queue: one arm per constructor of `Instr`. -/

namespace Sys2Proof.Machine

def exec (i : Instr) (s : State) : Host.Outcome State Fault Refusal :=
  match i with
  | .coldReset => Sys2Proof.Machine.execColdReset s
  | .frameReception p f => Sys2Proof.Machine.execFrameReception p f s
  | .frameClassification p => Sys2Proof.Machine.execFrameClassification p s
  | .transmissionEnd p o => Sys2Proof.Machine.execTransmissionEnd p o s
  | .recoveryTimerExpiry p => Sys2Proof.Machine.execRecoveryTimerExpiry p s
  | .slotArrival => Sys2Proof.Machine.execSlotArrival s
  | .freshnessTimerExpiry c => Sys2Proof.Machine.execFreshnessTimerExpiry c s
  | .staleTimerExpiry c => Sys2Proof.Machine.execStaleTimerExpiry c s
  | .wakeTimerExpiry k => Sys2Proof.Machine.execWakeTimerExpiry k s
  | .kneelTimerExpiry => Sys2Proof.Machine.execKneelTimerExpiry s
  | .raiseTimerExpiry => Sys2Proof.Machine.execRaiseTimerExpiry s
  | .prepTimerExpiry d => Sys2Proof.Machine.execPrepTimerExpiry d s
  | .dwellTimerExpiry d => Sys2Proof.Machine.execDwellTimerExpiry d s
  | .warnTimerExpiry d => Sys2Proof.Machine.execWarnTimerExpiry d s
  | .deadlineExpiry k => Sys2Proof.Machine.execDeadlineExpiry k s
  | .releaseGapExpiry => Sys2Proof.Machine.execReleaseGapExpiry s
  | .identify tag => Sys2Proof.Machine.execIdentify tag s
  | .modeRequest tag mode => Sys2Proof.Machine.execModeRequest tag mode s
  | .paramRead tag number => Sys2Proof.Machine.execParamRead tag number s
  | .paramWrite tag number value => Sys2Proof.Machine.execParamWrite tag number value s
  | .tableOpen tag table index => Sys2Proof.Machine.execTableOpen tag table index s
  | .tableWrite tag record => Sys2Proof.Machine.execTableWrite tag record s
  | .tableRead tag => Sys2Proof.Machine.execTableRead tag s
  | .tableClose tag => Sys2Proof.Machine.execTableClose tag s
  | .profileSelect tag profile step => Sys2Proof.Machine.execProfileSelect tag profile step s
  | .stateRead tag unit page => Sys2Proof.Machine.execStateRead tag unit page s
  | .snapshot tag => Sys2Proof.Machine.execSnapshot tag s
  | .counterRead tag group first => Sys2Proof.Machine.execCounterRead tag group first s
  | .counterClear tag group => Sys2Proof.Machine.execCounterClear tag group s
  | .faultClearRse tag => Sys2Proof.Machine.execFaultClearRse tag s
  | .faultClearRhc tag => Sys2Proof.Machine.execFaultClearRhc tag s
  | .inhibitSet tag => Sys2Proof.Machine.execInhibitSet tag s
  | .inhibitClear tag => Sys2Proof.Machine.execInhibitClear tag s
  | .restart tag => Sys2Proof.Machine.execRestart tag s
  | .unitResetRse tag => Sys2Proof.Machine.execUnitResetRse tag s
  | .unitResetRhc tag => Sys2Proof.Machine.execUnitResetRhc tag s
  | .unitResetSgm tag => Sys2Proof.Machine.execUnitResetSgm tag s
  | .unitResetTxs tag => Sys2Proof.Machine.execUnitResetTxs tag s

end Sys2Proof.Machine
end

