-- ==== Sys2Proof/Safety.lean ====
section
/-! DEFINITION. What a safe state of the part is, in the terms the statements use: the agreements between the blocks, and the
bounds that the rules give each queue, count and quantity. Each is a property of one state; the statements say that a reset has
it and that every step keeps it. -/

namespace Sys2Proof.Safety

open Sys2Proof.Machine

/-! ### Traction (R143 to R147) -/

/-- The condition of a source at its owner, SPEED_LOST being ACTIVE while VSP is LOST; MGMT is set and cleared by request and has
none (R143, R144, R151). -/
def ownerCondition (s : State) : Source → Option Bool
  | .doorOpen => some s.someUnlocked
  | .emergency => some s.someEmergency
  | .stopBrake => some (s.bdu.stopBrake != .released)
  | .kneel => some (s.rhc.kneel != .ride)
  | .mode => some (s.mode != .run)
  | .doorStatusLost => some s.someStatusUnknown
  | .airLow => some (!s.rhc.airOk)
  | .jackknife => some s.rse.jackknife
  | .steerFault => some s.rse.fault
  | .highLevel => some (s.rhc.level == .high)
  | .speedLost => some (s.isLost .vsp)
  | .mgmt => none

/-- Every source is ACTIVE exactly while its owner's condition holds (R143, R144). -/
def SourcesAgree (s : State) : Prop := ∀ k b, ownerCondition s k = some b → (s.source k).active = b

/-- The combined state, its timer and the line: INHIBITED exactly while a source is effective, the timer running exactly in GAP,
and TRACTION_PERMIT high exactly in PERMITTED (section 7.2, R147). -/
structure CombinedSound (s : State) : Prop where
  inhibited : s.tic.combined = .inhibited ↔ s.anyEffective = true
  gap : s.tic.gapTimer.isRunning = true ↔ s.tic.combined = .gap
  line : s.lines.tractionPermit = true ↔ s.tic.combined = .permitted

/-- The traction combiner agrees with the blocks it hears from. -/
structure TractionSound (s : State) : Prop where
  sources : SourcesAgree s
  combined : CombinedSound s

/-- What TRACTION_PERMIT promises (R147): it is high only in RUN, with every door LOCKED, the stop brake RELEASED, the kneel state
RIDE, no enabled inhibit source ACTIVE, and the release gap run out. -/
structure MayDrive (s : State) : Prop where
  mode : s.mode = .run
  doors : ∀ d, (s.door d).state = .locked
  stopBrake : s.bdu.stopBrake = .released
  kneel : s.rhc.kneel = .ride
  sources : ∀ k, s.effective k = false
  gap : s.tic.combined = .permitted

/-! ### The stop brake (R67, R70, R76) -/

/-- The requester set and the stop-brake state agree with the blocks that add and remove the members (R67, R69, R70). -/
structure StopBrakeSound (s : State) : Prop where
  doors : s.bdu.req.doors = s.someUnlocked
  mode : s.bdu.req.mode = (s.mode != .run)
  kneel : s.bdu.req.kneel = (s.rhc.kneel != .ride || s.rhc.pending == .kneel)
  emergency : s.bdu.req.emergency = true → s.someEmergency = true
  pendingKneel : s.rhc.pending = .kneel → s.rhc.kneel = .ride
  empty : s.bdu.req.isEmpty = true ↔ s.bdu.stopBrake = .released ∨ s.bdu.stopBrake = .releasing
  line : s.lines.stopHold = s.bdu.stopBrake.holding

/-! ### Confirmation tracking (R131, R141) -/

/-- The expectation queue holds at most four entries, no two of one kind and unit, and each of them is awaited by its placer in the
state that placed it; a placer in such a state has its entry in the queue (R131 and section 3.6, R119). -/
structure TrackerSound (s : State) : Prop where
  bound : s.cft.length ≤ Config.expectationDepth
  distinct : (s.cft.map (·.key)).Nodup
  apply : s.expects .stopApply = true ↔ s.bdu.stopBrake = .applying
  release : s.expects .stopRelease = true ↔ s.bdu.stopBrake = .releasing
  lock : ∀ d, s.expects (.doorLock d) = true ↔ (s.door d).withdrawn = true

/-! ### Steering (R34 to R36, R38 to R40, R46, R47) -/

/-- The hold-reason set agrees with the blocks that add and remove its members, and the target is 0 while it is non-empty (R34,
R36). -/
structure HoldSound (s : State) : Prop where
  door : s.rse.holds.door = s.someRearUnlocked
  kneel : s.rse.holds.kneel = (s.rhc.kneel != .ride)
  mode : s.rse.holds.mode = (s.mode != .run)
  fault : s.rse.holds.fault = s.rse.fault
  reverse : s.rse.holds.reverse = s.rse.reverse
  target : s.rse.holds.isEmpty = false → s.rse.target = 0

/-- A profile that is VALID has passed the validation of R40, is not open, and one that steers is VALID (R38, R39, R48). -/
structure ProfilesSound (s : State) : Prop where
  passed : ∀ p : Fin 4, s.rse.profiles[p].valid = true → s.rse.profiles[p].failure = none
  closed : ∀ p i, s.svr.pointer = some (.profile p, i) → s.rse.profiles[p].valid = false
  target : ∀ p, s.rse.xfade.target = some p → s.rse.profiles[p].valid = true
  active : s.mode = .run → s.rse.profiles[s.rse.active].valid = true

/-- The window contains 0, the target lies within the window, and the issued setpoint lies within the mechanical range (R46,
R47). -/
structure SetpointSound (s : State) : Prop where
  mech : 0 ≤ s.par .mech
  slew : 0 ≤ s.par .slew
  modeHold : s.rse.holds.mode = (s.mode != .run)
  zero : s.window.lo ≤ 0 ∧ 0 ≤ s.window.hi
  target : s.window.lo ≤ s.rse.target ∧ s.rse.target ≤ s.window.hi
  issued : -(s.par .mech) ≤ s.rse.issued ∧ s.rse.issued ≤ s.par .mech

/-- The steering engine keeps its bounds. -/
structure SteeringSound (s : State) : Prop where
  profiles : ProfilesSound s
  setpoint : SetpointSound s

/-! ### The trace (R26, R31) -/

/-- Each sample of a trace lies at least `gap` behind the next, the newest being the last. -/
def Spaced (gap : Nat) (odo : Dist) : List Sample → Prop
  | [] => True
  | x :: t => (∀ y ∈ t.head?, distBehind odo y.stamp + gap ≤ distBehind odo x.stamp) ∧ Spaced gap odo t

/-- The trace holds at most 48 samples, oldest first, each at least S after the one before it, and none while odo_now is absent or
the reverse flag is set (R26, R28, R30, R31). -/
structure TraceSound (s : State) : Prop where
  spacing : 1 ≤ s.parN .spacing
  bound : s.rse.trace.length ≤ Config.traceDepth
  absent : s.rse.odoNow = none → s.rse.trace = []
  reverse : s.rse.reverse = true → s.rse.trace = []
  spaced : ∀ o, s.rse.odoNow = some o → Spaced (s.parN .spacing) o s.rse.trace

/-! ### The ports (R156, R164, R168 to R172) -/

/-- A port has no frame waiting in any of its transmit sources. -/
def NothingWaits (s : State) (p : PortId) : Prop := s.standing p = 0

/-- The queues of a port are within their sizes; an UP port has failed fewer than eight times running, has no recovery under way,
and leaves no frame waiting while its transmitter is IDLE; a DOWN port has no frame waiting, and its transmitter sends a retry, or
its recovery timer runs, or it is retry-ready (R156, R164, R169 to R172). A transmission that a warm restart found under way runs on
an UP port (R174). -/
structure PortSound (s : State) (p : PortId) : Prop where
  receive : (s.port p).receive.length ≤ Config.queueDepth
  forward : (s.port p).forward.length ≤ Config.queueDepth
  upCount : (s.port p).up = true → (s.port p).abandons < Config.downAfter
  upQuiet : (s.port p).up = true → (s.port p).recovery.isRunning = false ∧ (s.port p).retryReady = false
  upBusy : (s.port p).up = true → (s.port p).tx = none → NothingWaits s p
  downCount : (s.port p).up = false → (s.port p).abandons = Config.downAfter
  downEmpty : (s.port p).up = false → NothingWaits s p
  downTimer : (s.port p).up = false → (s.port p).recovery.isRunning = true → (s.port p).tx = none ∧ (s.port p).retryReady = false
  downReady : (s.port p).up = false → (s.port p).retryReady = true → (s.port p).tx = none
  downRetry : ∀ t, (s.port p).up = false → (s.port p).tx = some t → t.detached = false
  downLive : (s.port p).up = false →
    (s.port p).tx.isSome = true ∨ (s.port p).recovery.isRunning = true ∨ (s.port p).retryReady = true

/-- Both ports and the urgent queue are within their bounds (R168). -/
structure PortsSound (s : State) : Prop where
  cab : PortSound s .cab
  chassis : PortSound s .chassis
  urgent : s.urgent.length ≤ Config.urgentDepth

/-! ### Signals and air (R4, R8, R87) -/

/-- A value lies within the range of a signal (R8). -/
def InRange (g : Sig) (v : Int) : Prop :=
  match g.handling with
  | .error lo hi | .saturate lo hi => lo ≤ v ∧ v ≤ hi
  | .modular => 0 ≤ v ∧ v < 65536
  | .any => True

/-- Every last good value lies within its signal's range, so does every held value, and the air estimate lies within 0..20800 (R4,
R23, R87). The counts and runs keep within their bounds (R4, R6), a channel without a last good value is in NEVER (R16), a binding with
its disagreement flag set has a held value (R23), and a chain rises (R10). -/
structure ValuesSound (s : State) : Prop where
  channels : ∀ (c : Fin 48) (ch : Channel) (v : Int),
    s.sgm.channels[c] = some ch → ch.run.lastGood = some v → InRange ch.cfg.sig v
  held : ∀ g v, (s.sgm.binding g).run.held = some v → InRange g v
  air : s.rhc.airEstimate ≤ 20800
  counts : ∀ (c : Fin 48) (ch : Channel), s.sgm.channels[c] = some ch → ch.run.errCount ≤ 255 ∧ ch.run.goodRun ≤ 255
  runs : ∀ g, (s.sgm.binding g).run.mismatchRun ≤ 3 ∧ (s.sgm.binding g).run.matchRun ≤ 3
  never : ∀ (c : Fin 48) (ch : Channel), s.sgm.channels[c] = some ch → ch.run.lastGood = none → ch.run.state = .never
  flagged : ∀ g, (s.sgm.binding g).run.disagree = true → (s.sgm.binding g).run.held.isSome = true
  chain : ∀ (c n : Fin 48) (ch : Channel), s.sgm.channels[c] = some ch → ch.cfg.next = some n → c < n

/-! ### Doors and the kneel sequence (R91, R96, R97, R107, section 5.2) -/

/-- The action that a door state may send (section 5.2). -/
def actionFits : DoorState → DoorAction → Bool
  | .locked, .none | .preparing, .none | .released, .permit | .opened, .permit | .closing, .warn | .closing, .withdraw
  | .emergency, .none | .fault, .withdraw => true
  | _, _ => false

/-- A door record is one that the door table of section 5.2 allows: the action of its state, the timers that may run in it, and the
release-pending, reset-seen and fault flags where R107 lets them stand. -/
structure DoorSound (r : DoorRec) : Prop where
  action : actionFits r.state r.action = true
  relPending : r.relPending = true ↔ r.state = .preparing
  prep : r.prep.isRunning = true → r.state = .preparing
  dwell : r.dwell.isRunning = true → r.state = .opened ∨ r.state = .closing
  warn : r.warn.isRunning = true → r.state = .closing ∧ r.action = .warn
  resetSeen : r.resetSeen = true → r.state = .emergency
  fault : r.state = .fault → r.faultFlag = true
  locked : r.state = .locked → r.obstructions = 0 ∧ r.suspended = false ∧ r.faultFlag = false

/-- Every door record is sound. -/
def DoorsSound (s : State) : Prop := ∀ d, DoorSound (s.door d)

/-- The kneel sequence: the pending request fits the kneel state (R91), the level mode follows it (R89), its timers run where the
sequence says (section 4.5), and only an ACTIVE corner holds a pending pulse (R81). -/
structure KneelSound (s : State) : Prop where
  pendingKneel : s.rhc.pending = .kneel → s.rhc.kneel = .ride
  pendingRaise : s.rhc.pending = .raise → s.rhc.kneel = .lowering ∨ s.rhc.kneel = .knelt
  level : s.rhc.level = .kneel ↔ s.rhc.kneel = .lowering ∨ s.rhc.kneel = .knelt
  origin : s.rhc.origin ≠ .none → s.rhc.kneel ≠ .ride ∨ s.rhc.pending = .kneel
  kneelTimer : s.rhc.kneelTimer.isRunning = true → s.rhc.kneel = .lowering
  raiseTimer : s.rhc.raiseTimer.isRunning = true → s.rhc.kneel = .raising ∧ s.rhc.airOk = true ∧ s.rhc.fault = false
  pulse : ∀ k, (s.corner k).pulse.isSome = true → (s.corner k).state = .active
  wake : ∀ k, (s.corner k).wake.isRunning = true → (s.corner k).state = .wake

/-! ### What a block's job leaves alone -/

/-- What the handling of an event by the jobs, the tracker, the combiner and the signal monitor leaves alone: the clock, the mode, the
parameters, every table, the frame path but for the chassis port's transmit side, and the service responder. -/
structure OutsideFrame (s t : State) : Prop where
  pending : t.pending = s.pending
  now : t.now = s.now
  readerPref : t.readerPref = s.readerPref
  mode : t.mode = s.mode
  params : t.params = s.params
  cab : t.ports.cab = s.ports.cab
  receive : t.ports.chassis.receive = s.ports.chassis.receive
  routes : t.routes = s.routes
  svr : t.svr = s.svr
  position : t.txs.cycle = s.txs.cycle ∧ t.txs.slot = s.txs.slot
  schedule : t.txs.table = s.txs.table ∧ t.txs.repeats = s.txs.repeats
  doorTable : t.dic.table = s.dic.table
  offsets : t.rhc.offsets = s.rhc.offsets
  profiles : t.rse.profiles = s.rse.profiles
  issued : t.rse.issued = s.rse.issued
  frtCab : t.ctr.frt.cab = s.ctr.frt.cab
  svrCtr : t.ctr.svr = s.ctr.svr

/-- What a job, the tracker or the combiner leaves alone: in addition the channels, the bindings and the signal counters. -/
structure JobFrame (s t : State) : Prop extends OutsideFrame s t where
  sgm : t.sgm = s.sgm
  sgmCtr : t.ctr.sgm = s.ctr.sgm

/-- What the body computer has loaded: the mode, the parameters, the tables, the service identifiers in effect, the open-table
pointer, the last commit result and the snapshot. -/
structure ConfigKept (s t : State) : Prop where
  mode : t.mode = s.mode
  params : t.params = s.params
  routes : t.routes = s.routes
  channels : ∀ c : Fin 48, (t.sgm.channels[c]).map (·.cfg) = (s.sgm.channels[c]).map (·.cfg)
  bindings : ∀ g, (t.sgm.binding g).cfg = (s.sgm.binding g).cfg
  schedule : t.txs.table = s.txs.table
  doorTable : t.dic.table = s.dic.table
  offsets : t.rhc.offsets = s.rhc.offsets
  profiles : t.rse.profiles = s.rse.profiles
  identifiers : t.svr.reqId = s.svr.reqId ∧ t.svr.rspId = s.svr.rspId
  pointer : t.svr.pointer = s.svr.pointer
  commit : t.svr.lastCommit = s.svr.lastCommit
  snapshot : t.svr.snapNumber = s.svr.snapNumber ∧ t.svr.snapshot = s.svr.snapshot

/-! ### Requests and their answers (R189, R207) -/

/-- The payload of the request frame that carries a command: its code, its tag and its parameters (R207); none for an event. -/
def requestBytes : Instr → Option (List Byte)
  | .identify tag => some [0x01, tag]
  | .modeRequest tag m => some [0x02, tag, m]
  | .paramRead tag n => some ([0x03, tag] ++ b2 n.toNat)
  | .paramWrite tag n v => some ([0x04, tag] ++ b2 n.toNat ++ b4 v.toNat)
  | .tableOpen tag t i => some ([0x05, tag, t] ++ b2 i.toNat)
  | .tableWrite tag r => some ([0x06, tag] ++ r.toList)
  | .tableRead tag => some [0x07, tag]
  | .tableClose tag => some [0x08, tag]
  | .profileSelect tag p k => some [0x09, tag, p, k]
  | .stateRead tag u p => some [0x0A, tag, u, p]
  | .snapshot tag => some [0x0B, tag]
  | .counterRead tag g i => some ([0x0C, tag, g] ++ b2 i.toNat)
  | .counterClear tag g => some [0x0D, tag, g]
  | .faultClearRse tag => some [0x0E, tag, 1]
  | .faultClearRhc tag => some [0x0E, tag, 3]
  | .inhibitSet tag => some [0x0F, tag]
  | .inhibitClear tag => some [0x10, tag]
  | .restart tag => some [0x11, tag]
  | .unitResetRse tag => some [0x12, tag, 1]
  | .unitResetRhc tag => some [0x12, tag, 3]
  | .unitResetSgm tag => some [0x12, tag, 0]
  | .unitResetTxs tag => some [0x12, tag, 8]
  | .coldReset | .frameReception _ _ | .frameClassification _ | .transmissionEnd _ _ | .recoveryTimerExpiry _ | .slotArrival
  | .freshnessTimerExpiry _ | .staleTimerExpiry _ | .wakeTimerExpiry _ | .kneelTimerExpiry | .raiseTimerExpiry
  | .prepTimerExpiry _ | .dwellTimerExpiry _ | .warnTimerExpiry _ | .deadlineExpiry _ | .releaseGapExpiry => none

/-- The state with the cab port's record replaced. -/
def withCab (s : State) (q : Port) : State := { s with ports := { s.ports with cab := q } }

/-- A response offered to the cab port by a responder whose buffer is empty: taken at once by an IDLE transmitter, kept in the buffer
while it is BUSY, taken as the retry of a port that is DOWN and retry-ready, and abandoned on any other DOWN port (R168, R169, R171,
R172, R189). -/
def offered (f : Frame) (s : State) : State :=
  if s.ports.cab.up = true then
    if s.ports.cab.tx = none then withCab s { s.ports.cab with tx := some ⟨f, .response, false⟩ }
    else { s with svr := { s.svr with response := some f } }
  else if s.ports.cab.retryReady = true then
    withCab s { s.ports.cab with tx := some ⟨f, .response, false⟩, retryReady := false }
  else { s with ctr := { s.ctr with frt := { s.ctr.frt with cab := { s.ctr.frt.cab with
    txAbandoned := bump32 s.ctr.frt.cab.txAbandoned } } } }

/-- The state after a request taken in state `s` with the effect `t` is counted and answered: code plus 0x80, tag, status and data, with
the response identifier that stood at the take (R189, R191, R206, R207). -/
def answered (s : State) (code tag status : Byte) (data : List Byte) (t : State) : State :=
  offered ⟨s.svr.rspId.kind, s.svr.rspId.ident, [code + 0x80, tag, status] ++ data⟩
    { t with ctr := { t.ctr with svr := { t.ctr.svr with
        requestsTaken := bump t.ctr.svr.requestsTaken
        refusals := if status = 0 then t.ctr.svr.refusals else bump t.ctr.svr.refusals } } }

/-- The part with the head frame of a receive queue taken by the router. -/
def headTaken (p : PortId) (rest : List Frame) (s : State) : State := s.setPort p { s.port p with receive := rest }

/-- The command sets the live counters of a counter group to 0: a cold reset, a COUNTER_CLEAR of the group or of all, or the
classification of a frame that carries one (R202). -/
def clearsGroup (n : Nat) (c : Instr) (s : State) : Bool :=
  match c with
  | .coldReset => true
  | .counterClear _ g => g.toNat == n || g.toNat == 255
  | .frameClassification .cab =>
    match s.ports.cab.receive with
    | f :: _ => s.isRequest .cab f && f.payload.head? == some 0x0D
    | [] => false
  | _ => false

/-- The frames of a port disposed of, and those still standing in its receive queue (R166). -/
def disposed (p : PortId) (s : State) : Nat :=
  let k := s.ctr.frt.get p
  k.forwarded + k.consumed + k.dropped + (s.port p).receive.length

/-- The tracker's placements (R141). -/
def placements (s : State) : Nat :=
  s.ctr.cft.doorLock.placed + s.ctr.cft.stopApply.placed + s.ctr.cft.stopRelease.placed

/-- The tracker's removals of all six ways (R131, R141). -/
def removals (s : State) : Nat :=
  let c := s.ctr.cft
  let of (k : KindCtr) := k.satisfied + k.timedOut + k.evicted
  of c.doorLock + of c.stopApply + of c.stopRelease + c.cancelled + c.superseded + c.resetRemovals

end Sys2Proof.Safety
end

