-- ==== Sys2Proof/Certificates/Slice0/Obligations.lean ====
section
/-! DEFINITION. The statements for the provers, one `Prop` each; OBLIGATIONS.json lists them with the rules of spec/ they rest on.
The vocabulary that is not the model's own stands in Sys2Proof/Safety.lean. -/

open Sys2Proof Sys2Proof.Machine Sys2Proof.Safety

/-- A step runs the command at the front of the queue; an empty queue idles (spec/00_scope.md, Events and timers (R1)). -/
def Obligations.StepTakesTheFrontCommand : Prop :=
  (∀ (c : Instr) (q : List Instr) (s : State), step (s.setPending (c :: q)) = exec c (s.setPending q)) ∧
  ∀ s : State, s.pending = [] → step s = .next s

/-- Every command answers a next state; the model's own queue and reader order stay (log entries 1, 4 and 34) (spec/00_scope.md, Events and timers (R1), spec/95_what_each_step_holds.md). The queue of waiting commands is the model's own (log entry 1) and so is the order of readers (log entry 4): that a command leaves both alone, COLD_RESET too (log entry 34), is the model's choice and not the spec's. -/
def Obligations.EveryCommandCompletes : Prop :=
  ∀ (c : Instr) (s : State),
  ∃ t, exec (c) s = .next t ∧
    t.pending = s.pending ∧ t.readerPref = s.readerPref

/-- COLD_RESET leaves the state after reset, with both lines low and every table empty (R206, R25, R57, R80, R104, R130, R142, R155, R174, R188). -/
def Obligations.ColdResetTakesEveryColdValue : Prop :=
  ∀ (s : State),
  exec (.coldReset) s = .next ({ State.reset with pending := s.pending, readerPref := s.readerPref }) ∧
  (let r := State.reset
   r.mode = .config ∧ r.lines = ⟨false, false⟩ ∧ (∀ g, r.isLost g = true) ∧ r.lostCount = 27 ∧
   (∀ i : Fin 128, r.routes[i] = none) ∧ (∀ c : Fin 48, r.sgm.channels[c] = none) ∧ (∀ g, (r.sgm.binding g).cfg = none) ∧
   (∀ i : Fin 32, r.txs.table[i] = none) ∧ (∀ p : Fin 4, r.rse.profiles[p].valid = false) ∧
   (∀ d, (r.door d).state = .locked ∧ (r.door d).statusUnknown = true) ∧ r.rhc.kneel = .ride ∧ r.rhc.airOk = false ∧
   r.bdu.stopBrake = .pending ∧ r.bdu.req = ⟨false, false, false, true, false, true⟩ ∧
   r.rse.holds = ⟨false, false, true, false, false, false⟩ ∧ r.tic.combined = .inhibited ∧ r.cft = [] ∧
   (∀ p, (r.port p).up = true ∧ (r.port p).tx = none) ∧ (∀ k : ParamId, r.par k = k.row.cold))

/-- The reset state satisfies every invariant of the model (R206, R155, R80, R142, R57, R174, R130, R104, R25). -/
def Obligations.ResetStateIsSound : Prop :=
  TractionSound State.reset ∧ StopBrakeSound State.reset ∧ TrackerSound State.reset ∧ HoldSound State.reset ∧
  SteeringSound State.reset ∧ TraceSound State.reset ∧ PortsSound State.reset ∧ ValuesSound State.reset ∧
  DoorsSound State.reset ∧ KneelSound State.reset

/-- Every step keeps the traction invariant (R143, R144, R145, R146, R147). -/
def Obligations.EveryStepKeepsTractionSound : Prop :=
  ∀ s t, TractionSound s → step s = .next t → TractionSound t

/-- Every step keeps the stopbrake invariant (R67, R69, R70, R76). -/
def Obligations.EveryStepKeepsStopBrakeSound : Prop :=
  ∀ s t, StopBrakeSound s → step s = .next t → StopBrakeSound t

/-- Every step keeps the tracker invariant (R119, R131, R132). -/
def Obligations.EveryStepKeepsTrackerSound : Prop :=
  ∀ s t, TrackerSound s → step s = .next t → TrackerSound t

/-- Every step keeps the hold invariant (R34, R36). -/
def Obligations.EveryStepKeepsHoldSound : Prop :=
  ∀ s t, HoldSound s → step s = .next t → HoldSound t

/-- Every step keeps the steering invariant (R38, R39, R40, R46, R47). -/
def Obligations.EveryStepKeepsSteeringSound : Prop :=
  ∀ s t, SteeringSound s → step s = .next t → SteeringSound t

/-- Every step keeps the trace invariant (R26, R28, R31). -/
def Obligations.EveryStepKeepsTraceSound : Prop :=
  ∀ s t, TraceSound s → step s = .next t → TraceSound t

/-- Every step keeps the ports invariant (R156, R164, R168, R169, R170, R171, R172). -/
def Obligations.EveryStepKeepsPortsSound : Prop :=
  ∀ s t, PortsSound s → step s = .next t → PortsSound t

/-- Every step keeps the values invariant (R4, R5, R8, R10, R15, R16, R23, R87). -/
def Obligations.EveryStepKeepsValuesSound : Prop :=
  ∀ s t, ValuesSound s → step s = .next t → ValuesSound t

/-- Every step keeps the doors invariant (R107, R108, R116). -/
def Obligations.EveryStepKeepsDoorsSound : Prop :=
  ∀ s t, DoorsSound s → step s = .next t → DoorsSound t

/-- Every step keeps the kneel invariant (R81, R89, R91, R97, R98). -/
def Obligations.EveryStepKeepsKneelSound : Prop :=
  ∀ s t, KneelSound s → step s = .next t → KneelSound t

/-- TRACTION_PERMIT is high only when the bus may drive (R147). -/
def Obligations.PermitMeansMayDrive : Prop :=
  ∀ s, TractionSound s → s.lines.tractionPermit = true → MayDrive s

/-- Only a service request or a reset changes what the body computer has loaded (R192, R195, R199, R191, R196, spec/10_service_frames_configuration_and_start_up.md). -/
def Obligations.ConfigurationChangesOnlyOnRequest : Prop :=
  (∀ c s t, exec c s = .next t → requestBytes c = none → c ≠ .coldReset →
    (c = .frameClassification .cab → ∀ f ∈ s.ports.cab.receive.head?, s.isRequest .cab f = false) → ConfigKept s t) ∧
  ∀ c p s t, exec c s = .next t → requestBytes c = some p → (∀ tag m, c ≠ .modeRequest tag m) → (∀ tag, c ≠ .restart tag) →
    t.mode = s.mode

/-- Every received frame ends in one disposition or stands in its receive queue (R165, R166). -/
def Obligations.FramePathBalances : Prop :=
  ∀ c s t p, exec c s = .next t → clearsGroup 7 c s = false →
    (t.ctr.frt.get p).received < Config.hold32 → (t.ctr.frt.get p).forwarded < Config.hold32 →
    (t.ctr.frt.get p).consumed < Config.hold32 → (t.ctr.frt.get p).dropped < Config.hold32 →
    (t.ctr.frt.get p).received + disposed p s = (s.ctr.frt.get p).received + disposed p t

/-- Placements equal removals of all six ways plus the occupancy gained (R141, R142). -/
def Obligations.TrackerBalances : Prop :=
  ∀ c s t, exec c s = .next t → clearsGroup 5 c s = false → (s.cft.map (·.key)).Nodup →
    (∀ n ∈ t.ctr.cft.toList, n < Config.hold16) →
    placements t + removals s + s.cft.length = placements s + removals t + t.cft.length

/-- The issued setpoint moves at slots alone, by at most slew, towards the target (R47, R181). -/
def Obligations.SetpointMovesOnlyAtBuilds : Prop :=
  (∀ c s t, exec c s = .next t → c ≠ .slotArrival → c ≠ .coldReset → t.rse.issued = s.rse.issued) ∧
  ∀ s, 0 ≤ s.par .slew →
    let x := (stepSetpoint s).rse.issued
    stepSetpoint s = s.setRse { s.rse with issued := x } ∧
    x = s.rse.issued + max (-(s.par .slew)) (min (s.par .slew) (s.rse.target - s.rse.issued)) ∧ (x - s.rse.issued).natAbs ≤ (s.par .slew).toNat ∧
    (if s.rse.issued ≤ s.rse.target then s.rse.issued ≤ x ∧ x ≤ s.rse.target else s.rse.target ≤ x ∧ x < s.rse.issued ∨
      s.par .slew = 0 ∧ x = s.rse.issued)

/-- The take of a request frame: its command, or discarded, UNKNOWN_REQUEST or BAD_LENGTH (R160, R189, R190, R203, R205, R207). -/
def Obligations.RequestFrameActsAsItsCommand : Prop :=
  ∀ (c : Instr) (p : List Byte) (f : Frame) (rest : List Frame) (s : State),
  (requestBytes c = some p → s.ports.cab.receive = f :: rest → f.kind = s.svr.reqId.kind → f.ident = s.svr.reqId.ident →
    f.payload = p →
    exec (.frameClassification .cab) s = exec c ((headTaken .cab rest s).countPort .cab fun k => { k with consumed := bump32 k.consumed })) ∧
  (s.svr.response.isSome = true →
    ((requestBytes c).isSome = true → exec (c) s = .next (s.countSvr fun k => { k with busyDrops := bump k.busyDrops })) ∧
    takePayload p s = s.countSvr fun k => { k with busyDrops := bump k.busyDrops }) ∧
  (s.svr.response = none →
    (p.length < 2 → takePayload p s = s.countSvr fun k => { k with shortRequests := bump k.shortRequests }) ∧
    ∀ (code tag : Byte) (more : List Byte), p = code :: tag :: more →
      (code = 0 ∨ 0x12 < code.toNat → takePayload p s = answered s code tag 1 [] s) ∧
      (∀ n, ([2, 3, 4, 8, 5, 18, 2, 2, 4, 4, 2, 5, 3, 3, 2, 2, 2, 3] : List Nat)[code.toNat - 1]? = some n → code ≠ 0 → p.length ≠ n →
        takePayload p s = answered s code tag 2 [] s) ∧
      (∀ u : Byte, more = [u] → code = 0x0E ∧ u ≠ 1 ∧ u ≠ 3 ∨ code = 0x12 ∧ u ≠ 0 ∧ u ≠ 1 ∧ u ≠ 3 ∧ u ≠ 8 →
        takePayload p s = answered s code tag 8 [] s))

/-- FRAME_CLASSIFICATION: service, CONFIG, clash, then the action of the lowest matching route entry, or the port's default (R159, R160, R161, R162, R163, R164). -/
def Obligations.ClassificationFollowsTheRoute : Prop :=
  ∀ (p : PortId) (s : State),
  (let drop (t : State) := t.countPort p fun k => { k with dropped := bump32 k.dropped }
   let consume (t : State) := t.countPort p fun k => { k with consumed := bump32 k.consumed }
   let pass (f : Frame) (t : State) :=
     if (t.port (otherPort p)).forward.length < 32 then
       placeFrame (otherPort p) .forward f (t.countPort p fun k => { k with forwarded := bump32 k.forwarded })
     else t.countPort p fun k => { k with dropped := bump32 k.dropped, fwdOverflow := bump32 k.fwdOverflow }
   exec (.frameClassification p) s = .next (match (s.port p).receive with
     | [] => s
     | f :: rest =>
       let u := headTaken p rest s
       if p = .cab ∧ f.kind = s.svr.reqId.kind ∧ f.ident = s.svr.reqId.ident then takePayload f.payload (consume u)
       else if s.mode = .config then drop u
       else if s.clashes p f = true then drop (u.countPort p fun k => { k with clash := bump32 k.clash })
       else match s.actionFor p f with
         | .drop => drop u
         | .tap c => tapFrame c f (consume u)
         | .pass => pass f u
         | .passTap c => pass f (tapFrame c f u)
         | .rewrite a c =>
           match rewriteTorque f a c u with
           | (none, v) => drop v
           | (some g, v) => pass g v)) ∧
  (∀ f e, s.lookup p f = some e → ∃ i : Fin 128, s.routes[i] = some e ∧ e.matchesFrame p f = true ∧
    ∀ (j : Fin 128) (e' : RouteEntry), j < i → s.routes[j] = some e' → e'.matchesFrame p f = false) ∧
  (∀ f, s.lookup p f = none → ∀ (j : Fin 128) (e : RouteEntry), s.routes[j] = some e → e.matchesFrame p f = false) ∧
  (∀ f, s.actionFor p f =
    match s.lookup p f, p with
    | some e, _ => e.action
    | none, .cab => if s.par .defaultCab = 1 then .pass else .drop
    | none, .chassis => if s.par .defaultChassis = 1 then .pass else .drop) ∧
  (∀ (f : Frame) (e : RouteEntry), e.matchesFrame p f = true ↔
    (e.arrival = .any ∨ e.arrival = .cab ∧ p = .cab ∨ e.arrival = .chassis ∧ p = .chassis) ∧ f.kind = e.kind ∧
      ∀ b < 29, e.mask.getLsbD b = true → f.ident.getLsbD b = e.ident.getLsbD b) ∧
  ∀ f : Frame, s.clashes p f = true ↔
    p = .chassis ∧ f.kind = s.svr.reqId.kind ∧ f.ident = s.svr.reqId.ident ∨
    p = .cab ∧ f.kind = s.svr.rspId.kind ∧ f.ident = s.svr.rspId.ident ∨
    ∃ (i : Fin 32) (e : SchedEntry), s.txs.table[i] = some e ∧ e.kind.port = p ∧ f.kind = e.idKind ∧ f.ident = e.ident

/-- FRAME_RECEPTION at the receive queue, what a frame placed into a transmit source meets, and which source an IDLE transmitter takes (R156, R165, R168, R169, R171, R172). -/
def Obligations.ReceptionAndPlacementFollowThePort : Prop :=
  ∀ (p : PortId) (src : TxSource) (f : Frame) (s : State),
  (if (s.port p).receive.length < 32 then
    exec (.frameReception p f) s = .next ((s.countPort p fun k => { k with received := bump32 k.received }).setPort p { s.port p with receive := (s.port p).receive ++ [f] })
  else
    exec (.frameReception p f) s = .next (s.countPort p fun k => { k with
      received := bump32 k.received, dropped := bump32 k.dropped, rxOverflow := bump32 k.rxOverflow })) ∧
  (((s.port p).up = true → (s.port p).tx ≠ none → placeFrame p src f s = putInSource p src f s) ∧
  ((s.port p).up = true → (s.port p).tx = none → NothingWaits s p → (src = .urgent → p = .chassis) → (src = .response → p = .cab) →
    placeFrame p src f s = s.setPort p { s.port p with tx := some ⟨f, src, false⟩ }) ∧
  ((s.port p).up = false → (s.port p).retryReady = true →
    placeFrame p src f s = s.setPort p { s.port p with tx := some ⟨f, src, false⟩, retryReady := false }) ∧
  ((s.port p).up = false → (s.port p).retryReady = false →
    placeFrame p src f s = s.countPort p fun k => { k with txAbandoned := bump32 k.txAbandoned }) ∧
  ((s.port p).up = true → (s.port p).tx = none →
    chooseTx p s =
      match p, s.urgent, s.svr.response, (s.port p).scheduled, (s.port p).forward with
      | .chassis, g :: rest, _, _, _ => (s.setUrgent rest).setPort p { s.port p with tx := some ⟨g, .urgent, false⟩ }
      | .cab, _, some g, _, _ =>
        (s.setSvr { s.svr with response := none }).setPort p { s.port p with tx := some ⟨g, .response, false⟩ }
      | _, _, _, some g, _ => s.setPort p { s.port p with scheduled := none, tx := some ⟨g, .scheduled, false⟩ }
      | _, _, _, none, g :: rest => s.setPort p { s.port p with forward := rest, tx := some ⟨g, .forward, false⟩ }
      | _, _, _, none, [] => s))

/-- TRANSMISSION_END: the outcome counted, the abandon count, DOWN at the eighth, and the next choice (R165, R170, R171, R172, R174). -/
def Obligations.TransmissionEndSettlesThePort : Prop :=
  ∀ (p : PortId) (o : TxOutcome) (s : State),
  let q := s.port p
  let idle := { q with tx := none }
  let sent (t : State) := t.countPort p fun k => { k with txSent := bump32 k.txSent }
  let lost (n : Nat) (t : State) := t.countPort p fun k => { k with txAbandoned := bump32By (bump32 k.txAbandoned) n }
  exec (.transmissionEnd p o) s = .next (match q.tx, o with
    | none, _ => s
    | some ⟨_, _, true⟩, .sent => chooseTx p (sent (s.setPort p idle))
    | some ⟨_, _, true⟩, .abandoned => chooseTx p (lost 0 (s.setPort p idle))
    | some ⟨_, _, false⟩, .sent => chooseTx p (sent (s.setPort p { idle with abandons := 0, up := true }))
    | some ⟨_, _, false⟩, .abandoned =>
      if q.up = true ∧ q.abandons + 1 < 8 then
        chooseTx p (lost 0 (s.setPort p { idle with abandons := q.abandons + 1 }))
      else if q.up = true then
        let t := lost (s.standing p) (s.setPort p { idle with
          abandons := 8, up := false, retryReady := false, scheduled := none, forward := [], recovery := .running (s.now + 200) })
        match p with
        | .cab => t.setSvr { t.svr with response := none }
        | .chassis => t.setUrgent []
      else lost 0 (s.setPort p { idle with abandons := min 8 (q.abandons + 1), recovery := .running (s.now + 200) }))

/-- A torque frame is dropped when short or wrong, else rewritten under the inhibit and the limit (R149, R150). -/
def Obligations.TorqueRewriteWritesTheCut : Prop :=
  ∀ (f : Frame) (a c : Nat) (s : State),
  c ≠ a → c ≠ a + 1 → 0 ≤ s.par .torqueCap →
  let t := torqueOf f.payload a
  let w := if s.inhibitInForce = true then min t 0 else if s.limitInForce = true then min t (s.par .torqueCap) else t
  let q := writeTorque f.payload a c w
  if f.payload.length < a + 2 ∨ f.payload.length < c + 1 then
    rewriteTorque f a c s = (none, s.countTic fun k => { k with shortFrames := bump k.shortFrames })
  else if sumBytes f.payload ≠ 255 then
    rewriteTorque f a c s = (none, s.countTic fun k => { k with checkDrops := bump k.checkDrops })
  else
    rewriteTorque f a c s = (some { f with payload := q }, s.countTic fun k => { k with
      rewritten := bump k.rewritten
      inhibitCuts := if w ≠ t ∧ s.inhibitInForce = true then bump k.inhibitCuts else k.inhibitCuts
      limitCaps := if w ≠ t ∧ s.inhibitInForce = false then bump k.limitCaps else k.limitCaps }) ∧
    q.length = f.payload.length ∧ torqueOf q a = w ∧ sumBytes q = 255 ∧
    (∀ i < f.payload.length, i ≠ a → i ≠ a + 1 → i ≠ c → q[i]? = f.payload[i]?) ∧ (w = t → q = f.payload)

/-- SLOT_ARRIVAL reaches the next slot and takes its due entries in index order, each built or deferred (R176, R178, R179, R180, R181, R182, R184, R187, R188). -/
def Obligations.SlotArrivalTakesItsDueEntries : Prop :=
  ∀ (s : State),
  let next : Fin 10 × Fin 20 := match s.txs.slot with
    | none => (s.txs.cycle, 0)
    | some j => if j = 19 then (s.txs.cycle + 1, 0) else (s.txs.cycle, j + 1)
  let u := (s.setNow (s.now + 1)).setTxs { s.txs with cycle := next.1, slot := some next.2 }
  let take (v : State) (i : Fin 32) : State :=
    match v.txs.table[i] with
    | none => v
    | some e => if e.slot = next.2 ∧ (next.1.val % e.period = e.phase ∨ v.txs.repeats[i] = true) then takeEntry i e v else v
  ∃ t, exec (.slotArrival) s = .next t ∧
    t = (if s.mode = .config then u else (List.finRange 32).foldl take u) ∧
    t.now = s.now + 1 ∧ t.txs.cycle = next.1 ∧ t.txs.slot = some next.2 ∧ t.txs.table = s.txs.table ∧ t.mode = s.mode ∧
    t.params = s.params ∧ t.sgm = s.sgm ∧ t.routes = s.routes ∧ t.svr = { s.svr with response := t.svr.response } ∧
  ∀ (i : Fin 32) (e : SchedEntry) (s : State),
  let build (fields : List Byte) (u : State) :=
    placeFrame e.kind.port .scheduled ⟨e.idKind, e.ident, payloadOf e.kind fields s.txs.alive[e.kind.idx]⟩
      ((u.setTxs { u.txs with
          alive := u.txs.alive.set e.kind.idx (s.txs.alive[e.kind.idx] + 1), repeats := u.txs.repeats.set i false }).countTxs
        fun k => { k with scheduled := k.scheduled.set e.kind.idx (bump k.scheduled[e.kind.idx]) })
  if (s.port e.kind.port).scheduled.isSome = true then
    takeEntry i e s = (s.setTxs { s.txs with repeats := s.txs.repeats.set i true }).countTxs fun k =>
      { k with deferrals := k.deferrals.set e.kind.idx (bump k.deferrals[e.kind.idx]) }
  else
    takeEntry i e s =
      match e.kind with
      | .rsc => build (stepSetpoint s).rscFields (stepSetpoint s)
      | .bac => build s.bacFields s
      | .dcm => build s.dcmFields s
      | .gst => build s.gstFields s
      | .vlc1 => build (valveContents .fl .fr s).1 (valveContents .fl .fr s).2
      | .vlc2 => build (valveContents .ml .mr s).1 (valveContents .ml .mr s).2
      | .vlc3 => build (valveContents .rl .rr s).1 (valveContents .rl .rr s).2

/-- The contents of RSC, BAC, DCM and GST byte by byte, and the payload: its length, alive byte, zeros where no field lies, and sum 0xFF (R47, R180, R181, R182, R184, R208). -/
def Obligations.GeneratedPayloadsAreSealed : Prop :=
  ∀ (k : GenKind) (fields : List Byte) (a : Alive) (s : State),
  (fields.length ≤ k.length - 2 →
    let p := payloadOf k fields a
    p.length = k.length ∧ sumBytes p = 255 ∧ p.take fields.length = fields ∧ byteAt p (k.length - 2) = a.toNat ∧
    ∀ i < k.length - 2, fields.length ≤ i → byteAt p i = 0) ∧
  s.rscFields.length = 5 ∧ s.bacFields.length = 10 ∧ s.dcmFields.length = 4 ∧ s.gstFields.length = 14 ∧
  (∀ l r, (valveContents l r s).1.length = 6) ∧
  (let w (b : Bool) (n : Nat) : Nat := if b = true then n else 0
   let active (x : Source) (n : Nat) : Nat := w (s.source x).active n
   let steering (u : State) : List Byte := [match u.steerMode with | .centreHold => 0 | .direct => 1 | .follow => 2]
   let cause (x : Axle) : Byte := match s.brakeCause x with | .none => 0 | .service => 1 | .stop => 2 | .emergency => 3
   let held := s.bdu.stopBrake = .applying ∨ s.bdu.stopBrake = .applied ∨ s.bdu.stopBrake = .fault
   let doorState (d : Door) : Byte := match (s.door d).state with
     | .locked => 0 | .preparing => 1 | .released => 2 | .opened => 3 | .closing => 4 | .emergency => 5 | .fault => 6
   let doorAction (d : Door) : Byte := match (s.door d).action with | .none => 0 | .permit => 1 | .warn => 2 | .withdraw => 3
   takeContents .rsc s =
     (let u := stepSetpoint s
      let h := u.rse.holds
      (i2 u.rse.issued ++ steering u ++
        b1 (w h.door 1 + w h.kneel 2 + w h.mode 4 + w h.fault 8 + w h.reverse 16 + w h.input 32) ++ flag u.rse.fault, u)) ∧
   takeContents .bac s = (b2 (s.brakeTarget .f) ++ b2 (s.brakeTarget .m) ++ b2 (s.brakeTarget .r) ++
     [cause .f, cause .m, cause .r] ++ b1 (w (decide held) 1 + w s.bdu.backup 2), s) ∧
   takeContents .dcm s = ([doorAction .d1, doorAction .d2, doorAction .d3, doorAction .d4], s) ∧
   takeContents .gst s =
     (([match s.mode with | .config => 0 | .run => 1 | .service => 2,
        match s.tic.combined with | .inhibited => 0 | .gap => 1 | .permitted => 2] : List Byte) ++
      b2 (active .doorOpen 1 + active .emergency 2 + active .stopBrake 4 + active .kneel 8 + active .mode 16 +
        active .doorStatusLost 32 + active .airLow 64 + active .speedLost 128 + active .mgmt 256) ++
      b1 (active .jackknife 1 + active .steerFault 2 + active .highLevel 4) ++
      [doorState .d1, doorState .d2, doorState .d3, doorState .d4,
       match s.bdu.stopBrake with | .released => 0 | .pending => 1 | .applying => 2 | .applied => 3 | .releasing => 4 | .fault => 5,
       match s.rhc.kneel with | .ride => 0 | .lowering => 1 | .knelt => 2 | .raising => 3] ++ steering s ++
      b1 (w s.bdu.drag 1 + w s.rhc.fault 2 + w (!s.rhc.airOk) 4 + w s.rse.fault 8 + w s.rse.jackknife 16 +
        w (decide (3 ≤ s.cft.length)) 32) ++
      b1 s.lostCount, s))

/-- A valve build consumes the pulses of its corners and carries no RAISE while the air state is LOW (R81, R86, R87, R88, R183, R208). -/
def Obligations.ValveBuildsRespectTheAirState : Prop :=
  ∀ (ok : Bool) (k l r : Corner) (s : State),
  let bare := s.putCorner k { s.corner k with pulse := none }
  takePulse ok k s =
    (match (s.corner k).pulse with
     | none => (⟨.hold, 0⟩, s)
     | some ⟨.lower, ms⟩ => (⟨.lower, ms⟩, bare)
     | some ⟨.raise, ms⟩ =>
       if ok = true then
         (⟨.raise, ms⟩, bare.setRhc { bare.rhc with
           airEstimate := (max 0 ((s.rhc.airEstimate : Int) - ms * s.parN .raiseCost)).toNat })
       else (⟨.hold, 0⟩, bare.countRhc fun c => { c with discardedRaises := bump c.discardedRaises })) ∧
  (let a := takePulse s.rhc.airOk l s
   let b := takePulse s.rhc.airOk r a.2
   let code (x : ValveAction) : Byte := match x with | .hold => 0 | .raise => 1 | .lower => 2
   valveContents l r s =
     ([code a.1.action] ++ b2 a.1.ms ++ [code b.1.action] ++ b2 b.1.ms,
      if a.1.action = .raise ∨ b.1.action = .raise then blockEvent (fun t => evalKneelGate (evalAir t)) b.2 else b.2)) ∧
  (s.rhc.airOk = false → byteAt (valveContents l r s).1 0 ≠ 1 ∧ byteAt (valveContents l r s).1 3 ≠ 1)

/-- The model's division rounds to the nearest integer, halves away from zero (spec/00_scope.md, Rounding). -/
def Obligations.RoundingIsToNearest : Prop :=
  ∀ (n : Int) (d : Nat),
  0 < d → let q := roundDiv n d
  2 * (n - q * d).natAbs ≤ d ∧ (2 * (n - q * d).natAbs = d → n.natAbs < (q * d).natAbs)

/-- The three ratios: floor, clamp, an equal share at equal weights, and the bounds of their sum (R62). -/
def Obligations.RatiosFollowTheWeights : Prop :=
  ∀ (a : Axle) (s : State),
  50 ≤ s.par .staticWF → 50 ≤ s.par .staticWM → 50 ≤ s.par .staticWR →
  let sum := s.bdu.weights.f + s.bdu.weights.m + s.bdu.weights.r
  let w : PerAxle Nat := if sum = 0 then ⟨s.parN .staticWF, s.parN .staticWM, s.parN .staticWR⟩ else s.bdu.weights
  0 < w.f + w.m + w.r ∧
  s.baseRatio a = min 1536 (max 512 (3072 * w.get a / (w.f + w.m + w.r))) ∧
  (w.f = w.m → w.m = w.r → s.baseRatio a = 1024) ∧
  2560 ≤ s.baseRatio .f + s.baseRatio .m + s.baseRatio .r ∧ s.baseRatio .f + s.baseRatio .m + s.baseRatio .r ≤ 3584

/-- Each axle target is the largest pressure offered, at most p_max, and at least stop_p under the stop brake (R64, R65). -/
def Obligations.BrakeTargetsTakeTheLargestOffer : Prop :=
  ∀ (a : Axle) (s : State),
  0 ≤ s.par .stopP → s.par .stopP ≤ s.par .pMax →
  let held := s.bdu.stopBrake = .applying ∨ s.bdu.stopBrake = .applied ∨ s.bdu.stopBrake = .fault
  let offered := a ≠ .f ∧ (s.bdu.req.emergency = true ∨ held)
  let service := min (s.parN .pMax) (roundDiv (s.bdu.demand * s.ratio a : Nat) 1024).toNat
  s.brakeTarget a ≤ s.parN .pMax ∧ (offered → s.brakeTarget a = max (s.parN .stopP) service) ∧
  (¬offered → s.brakeTarget a = service) ∧
  (s.brakeCause a = .none ↔ s.brakeTarget a = 0) ∧
  (s.brakeCause a = .emergency ↔ s.brakeTarget a ≠ 0 ∧ a ≠ .f ∧ s.bdu.req.emergency = true ∧ s.brakeTarget a = s.parN .stopP) ∧
  (s.brakeCause a = .stop ↔ s.brakeTarget a ≠ 0 ∧ a ≠ .f ∧ s.bdu.req.emergency = false ∧ held ∧ s.brakeTarget a = s.parN .stopP)

/-- The brake unit at its signal events: demand, weights and their latch, the jackknife bias, DRIVER and START, sag and late confirmation (R59, R60, R61, R63, R67, R68, R70, R71, R72, R73, R74, R75). What counts as one event at the block, with its urgent DCM and the end of almost full after it (blockEvent), is the model's reading (DEDUCED, log entry 6). -/
def Obligations.BrakeSignalsFormDemandWeightsAndRequests : Prop :=
  ∀ (e : SigEvent) (k : Requester) (b : Bool) (a : Axle) (s : State),
  let formed (t : State) : PerAxle Nat :=
    ⟨if t.isLost .blf = true then t.parN .staticWF else (t.value .blf).toNat,
     if t.isLost .blm = true then t.parN .staticWM else (t.value .blm).toNat,
     if t.isLost .blr = true then t.parN .staticWR else (t.value .blr).toNat⟩
  let slow := s.isGood .vsp = true ∧ s.value .vsp ≤ s.par .stopSpeed
  let threshold := s.par .stopP - s.par .stopTol
  let switchOn := ((e.value % 256).toNat / 32) % 2 == 1
  readerEvent .bdu e s = blockEvent (bduEvent e) s ∧
  (e.sig = .bpd → bduEvent e s =
    if s.isLost .bpd = true then { s with
      bdu := { s.bdu with demand := 0, backup := true }
      ctr := { s.ctr with bdu := { s.ctr.bdu with
        backupOnsets := if s.bdu.backup = true then s.ctr.bdu.backupOnsets else bump s.ctr.bdu.backupOnsets } } }
    else s.setBdu { s.bdu with demand := (roundDiv (s.value .bpd * s.par .pMax) 1000).toNat, backup := false }) ∧
  (0 ≤ s.value .bpd → s.value .bpd ≤ 1000 → (roundDiv (s.value .bpd * s.par .pMax) 1000).toNat ≤ s.parN .pMax) ∧
  (e.sig = .blf ∨ e.sig = .blm ∨ e.sig = .blr →
    bduEvent e s = if s.rhc.kneel = .ride then s.setBdu { s.bdu with weights := formed s } else s) ∧
  (enterLowering s).bdu.weights = s.bdu.weights ∧ (enterKnelt s).bdu.weights = s.bdu.weights ∧
  (enterRide s).bdu.weights = formed s ∧
  s.ratio a = (if a = .r ∧ s.rse.jackknife = true ∧ 0 < s.bdu.demand then min 1792 (max 512 (s.baseRatio .r + s.parN .jkBias))
    else s.baseRatio a) ∧
  (s.bdu.req.has k = b → request k b s = s) ∧
  (s.bdu.req.has k ≠ b →
    let t := request k b s
    let q := s.bdu.req.put k b
    let next : StopBrake :=
      if b = true then
        if s.bdu.req.isEmpty = false then s.bdu.stopBrake
        else match s.bdu.stopBrake with
          | .released => if slow then .applying else .pending
          | .releasing => .applying
          | x => x
      else if q.isEmpty = false then s.bdu.stopBrake
      else match s.bdu.stopBrake with
        | .pending => .released
        | .applying | .applied | .fault => .releasing
        | x => x
    let enters (x : StopBrake) := next = x ∧ s.bdu.stopBrake ≠ x
    t.bdu = { s.bdu with req := q, stopBrake := next, drag := if enters .applying then false else s.bdu.drag } ∧
    t.lines.stopHold = (if next = s.bdu.stopBrake then s.lines.stopHold else next == .applying) ∧
    t.ctr.bdu = (if enters .applying then { s.ctr.bdu with applications := bump s.ctr.bdu.applications } else s.ctr.bdu) ∧
    (enters .applying → t.cft.getLast? = some ⟨.stopApply, s.now + s.parN .applyTimeout⟩) ∧
    (enters .releasing → t.cft.getLast? = some ⟨.stopRelease, s.now + s.parN .releaseTimeout⟩)) ∧
  (e.sig = .drq → bduEvent e s =
    if e.arrival = true ∧ s.mode = .run ∧ switchOn = false then request .start false (request .driver switchOn s)
    else request .driver switchOn s) ∧
  (e.sig = .vsp → bduEvent e s = if s.bdu.stopBrake = .pending ∧ slow then enterApplying s else s) ∧
  (e.sig = .apm ∨ e.sig = .apr →
    let t := bduEvent e s
    let met := threshold ≤ s.value .apm ∧ threshold ≤ s.value .apr ∧ s.isLost .apm = false ∧ s.isLost .apr = false
    if e.arrival = true ∧ s.bdu.stopBrake = .applied ∧ e.value < threshold then
      t.bdu = { s.bdu with stopBrake := .applying, drag := false } ∧ t.lines.stopHold = true ∧
      t.ctr.bdu = { s.ctr.bdu with sags := bump s.ctr.bdu.sags, applications := bump s.ctr.bdu.applications } ∧
      t.cft.getLast? = some ⟨.stopApply, s.now + s.parN .applyTimeout⟩
    else if e.arrival = true ∧ s.bdu.stopBrake = .fault ∧ met then
      t.bdu = { s.bdu with stopBrake := .applied } ∧ t.lines.stopHold = true ∧ t.cft = s.cft ∧
      t.ctr.bdu = { s.ctr.bdu with lateConfirmations := bump s.ctr.bdu.lateConfirmations }
    else t = s) ∧
  (let t := stopBrakeSatisfied .stopApply s
   if s.bdu.stopBrake = .applying then t.bdu = { s.bdu with stopBrake := .applied } ∧ t.lines.stopHold = true ∧ t.cft = s.cft
   else t = s) ∧
  (let t := stopBrakeSatisfied .stopRelease s
   if s.bdu.stopBrake = .releasing then t.bdu = { s.bdu with stopBrake := .released } ∧ t.lines.stopHold = false ∧ t.cft = s.cft
   else t = s) ∧
  (e.sig ∉ [Sig.bpd, .blf, .blm, .blr, .drq, .vsp, .apm, .apr] → bduEvent e s = s)

/-- The gain of a validated profile: the end gains outside, the clamped interpolation on a segment (R43). -/
def Obligations.GainLiesOnItsSegment : Prop :=
  ∀ (q : Profile) (v : Int),
  q.failure = none →
  (v ≤ (q.point 0).speed → q.gainAt v = (q.point 0).gain) ∧
  ((q.point (q.n - 1)).speed ≤ v → q.gainAt v = (q.point (q.n - 1)).gain) ∧
  ∀ i < q.n - 1, (q.point i).speed ≤ v → v < (q.point (i + 1)).speed →
    let lo := min (q.point i).gain (q.point (i + 1)).gain
    let hi := max (q.point i).gain (q.point (i + 1)).gain
    q.gainAt v = clamp lo hi ((q.point i).gain + roundDiv ((q.point i).delta * (v - (q.point i).speed)) 4096) ∧
    lo ≤ q.gainAt v ∧ q.gainAt v ≤ hi ∧ (v = (q.point i).speed → q.gainAt v = (q.point i).gain)

/-- The follow angle: the angle that arrives in DIRECT, the interpolation at the lag in FOLLOW (R42). -/
def Obligations.FollowAngleReadsTheLag : Prop :=
  ∀ (s : State) (fwa : Int) (pre : List Sample) (o : Sample) (post : List Sample),
  let d (x : Sample) : Int := s.behind x
  (s.steerMode = .direct → s.followAngle fwa = fwa) ∧
  (s.steerMode = .follow → ∃ x ∈ s.rse.trace, s.par .lag ≤ d x) ∧
  (s.steerMode = .follow → s.rse.trace = pre ++ o :: post → s.par .lag ≤ d o → (∀ x ∈ pre, d o < d x) →
    (∀ x ∈ post, d x < s.par .lag ∧ d x < d o) →
    match post with
    | [] => s.followAngle fwa = o.angle
    | n :: _ =>
      s.followAngle fwa = o.angle + roundDiv ((n.angle - o.angle) * (d o - s.par .lag)) (d o - d n).toNat ∧
      min o.angle n.angle ≤ s.followAngle fwa ∧ s.followAngle fwa ≤ max o.angle n.angle ∧
      (d o = s.par .lag → s.followAngle fwa = o.angle))

/-- An arrival is judged by its check byte, then its alive value, then its range (R12, R13, R14). -/
def Obligations.ArrivalIsJudgedInOrder : Prop :=
  ∀ (c : ChanCfg) (p : List Byte) (g : Sig) (v : Int) (x : Option Alive) (k : ChanCtr),
  (c.fits p.length = true →
  (c.checkPos.isSome = true → (p.foldl (fun n b => n + b.toNat) 0) % 256 ≠ 0xFF →
    judgeArrival c p x k = ⟨x, { k with checkErrors := bump k.checkErrors }, none⟩) ∧
  (c.checkPos.isSome = true → (p.foldl (fun n b => n + b.toNat) 0) % 256 = 0xFF → judgeArrival c p x k = judgeAlive c p x k) ∧
  (c.checkPos = none → judgeArrival c p x k = judgeAlive c p x k)) ∧
  ((c.alivePos = none → judgeAlive c p x k = judgeRange c.sig (c.value p) x k) ∧
  match c.alivePos with
  | none => True
  | some i =>
    let a : Alive := BitVec.ofNat 4 (byteAt p i % 16)
    match x with
    | none => judgeAlive c p x k = judgeRange c.sig (c.value p) (some (a + 1)) k
    | some e =>
      if a = e then judgeAlive c p x k = judgeRange c.sig (c.value p) (some (e + 1)) k
      else if a = e - 1 then judgeAlive c p x k = ⟨some e, { k with repeatErrors := bump k.repeatErrors }, none⟩
      else if c.seqAction = .accept then
        judgeAlive c p x k = judgeRange c.sig (c.value p) (some (a + 1)) { k with sequenceErrors := bump k.sequenceErrors }
      else judgeAlive c p x k = ⟨some (a + 1), { k with sequenceErrors := bump k.sequenceErrors }, none⟩) ∧
  let taken (w : Int) : Judged := ⟨x, { k with accepted := bump k.accepted }, some w⟩
  let clamped (w : Int) : Judged := ⟨x, { k with accepted := bump k.accepted, rangeErrors := bump k.rangeErrors }, some w⟩
  (match g.handling with
   | .error lo hi =>
     if lo ≤ v ∧ v ≤ hi then judgeRange g v x k = taken v
     else judgeRange g v x k = ⟨x, { k with rangeErrors := bump k.rangeErrors }, none⟩
   | .saturate lo hi =>
     if v < lo then judgeRange g v x k = clamped lo
     else if hi < v then judgeRange g v x k = clamped hi
     else judgeRange g v x k = taken v
   | .modular | .any => judgeRange g v x k = taken v) ∧
  judgeRange .odo v x k = taken v ∧ judgeRange .drq v x k = taken v

/-- FRESHNESS_TIMER_EXPIRY makes a FRESH channel SUSPECT; STALE_TIMER_EXPIRY makes a SUSPECT one STALE (R2, R16, R17, R24). -/
def Obligations.ChannelTimersAgeTheChannel : Prop :=
  ∀ (c : Fin 48) (s : State),
  (∀ (x : Timer) (n : Nat), x.ended n = true ↔ ∃ due, x = .running due ∧ due ≤ n) ∧
  match s.sgm.channels[c] with
  | none => exec (.freshnessTimerExpiry c) s = .next (s) ∧ exec (.staleTimerExpiry c) s = .next (s)
  | some ch =>
    let put (r : ChanRun) := s.sgm.channels.set c (some { ch with run := r })
    (if ch.run.freshTimer.ended s.now = false then exec (.freshnessTimerExpiry c) s = .next (s)
     else if ch.run.state ≠ .fresh then
       exec (.freshnessTimerExpiry c) s = .next ({ s with sgm := { s.sgm with channels := put { ch.run with freshTimer := .stopped } } })
     else ∃ t, exec (.freshnessTimerExpiry c) s = .next t ∧
    OutsideFrame s t ∧ t.sgm.channels = put { ch.run with state := .suspect, goodRun := 0, freshTimer := .stopped } ∧
       t.ctr.sgm.chans = s.ctr.sgm.chans.set c { s.ctr.sgm.chans[c] with suspectEntries := bump s.ctr.sgm.chans[c].suspectEntries }) ∧
    (if ch.run.staleTimer.ended s.now = false then exec (.staleTimerExpiry c) s = .next (s)
     else if ch.run.state ≠ .suspect then
       exec (.staleTimerExpiry c) s = .next ({ s with sgm := { s.sgm with channels := put { ch.run with staleTimer := .stopped } } })
     else ∃ t, exec (.staleTimerExpiry c) s = .next t ∧
    OutsideFrame s t ∧
       t.sgm.channels = put { ch.run with state := .stale, freshTimer := .stopped, staleTimer := .stopped } ∧
       t.ctr.sgm.chans = s.ctr.sgm.chans.set c { s.ctr.sgm.chans[c] with staleEntries := bump s.ctr.sgm.chans[c].staleEntries })

/-- A tapped frame goes along its chain; each channel's run state, counters and signal event follow from its judgement (R10, R11, R15, R16, R17, R20, R24). -/
def Obligations.TappedArrivalMovesItsChannel : Prop :=
  ∀ (c : Fin 48) (f : Frame) (s : State),
  ValuesSound s →
  match s.sgm.channels[c] with
  | none => tapFrame c f s = s.countSgm fun k => { k with unconfiguredTaps := bump k.unconfiguredTaps }
  | some ch =>
    let g := ch.cfg.sig
    let old := ch.run
    let width := if ch.cfg.wide then 2 else 1
    let raw : Int :=
      if ch.cfg.wide then
        let n := 256 * byteAt f.payload ch.cfg.offset + byteAt f.payload (ch.cfg.offset + 1)
        if ch.cfg.signed = true ∧ 32768 ≤ n then (n : Int) - 65536 else n
      else
        let n := byteAt f.payload ch.cfg.offset
        if ch.cfg.signed = true ∧ 128 ≤ n then (n : Int) - 256 else n
    let j := judgeArrival ch.cfg f.payload old.expAlive s.ctr.sgm.chans[c]
    let r : ChanRun := match j.value with
      | some v =>
        { state := match old.state with
            | .never | .fresh => .fresh
            | .suspect => if 3 ≤ old.goodRun + 1 then .fresh else .suspect
            | .stale => .suspect
          lastGood := some v, errCount := 0, goodRun := if old.state = .stale then 1 else min 255 (old.goodRun + 1)
          freshTimer := .running (s.now + ch.cfg.maxAge), staleTimer := .running (s.now + s.parN .staleMult * ch.cfg.maxAge)
          expAlive := j.expAlive }
      | none =>
        { old with
          state := if old.state = .fresh ∧ 2 ≤ old.errCount + 1 then .suspect else old.state
          errCount := min 255 (old.errCount + 1), goodRun := 0, expAlive := j.expAlive }
    let n := if old.state ≠ .suspect ∧ r.state = .suspect then { j.ctr with suspectEntries := bump j.ctr.suspectEntries } else j.ctr
    let t1 := { s with
      sgm := { s.sgm with channels := s.sgm.channels.set c (some { ch with run := r }) }
      ctr := { s.ctr with sgm := { s.ctr.sgm with chans := s.ctr.sgm.chans.set c n } } }
    let selected := ∃ b, (s.sgm.binding g).cfg = some b ∧ b.selected (s.sgm.binding g).run.selection = c
    let arrival := j.value.isSome = true ∧ s.sgm.acts g = true ∧ selected
    ch.cfg.value f.payload = (if g = .odo then (raw - ch.cfg.bias) % 65536 else raw - ch.cfg.bias) ∧
    (f.payload.length < ch.cfg.offset + width ∨ (∃ i ∈ ch.cfg.alivePos, f.payload.length < i + 1) ∨
        (∃ i ∈ ch.cfg.checkPos, f.payload.length < i + 1) →
      j = ⟨old.expAlive, { s.ctr.sgm.chans[c] with checkErrors := bump s.ctr.sgm.chans[c].checkErrors }, none⟩) ∧
    (arrival →
      let t := evalDisagreement g (evalSelection g t1)
      applyArrival c ch f s = deliver ⟨g, true, t.value g, (t.reading g).quality, (s.reading g).quality⟩ t) ∧
    (¬arrival →
      let t := evalSelection g t1
      applyArrival c ch f s =
        if (t.sgm.binding g).run.selection ≠ (s.sgm.binding g).run.selection ∨ (t.reading g).quality ≠ (s.reading g).quality then
          deliver ⟨g, false, t.value g, (t.reading g).quality, (s.reading g).quality⟩ t
        else t) ∧
    tapFrame c f s =
      match ch.cfg.next with
      | none => applyArrival c ch f s
      | some d => tapFrame d f (applyArrival c ch f s)

/-- The quality and value of a signal, and the delivery of its events to the blocks that read it (R7, R8, R19, R20). -/
def Obligations.QualityFollowsTheSelectedChannel : Prop :=
  ∀ (g : Sig) (e : SigEvent) (s : State),
  ((s.sgm.binding g).cfg = none → s.reading g = ⟨0, .lost⟩) ∧
  (∀ b, (s.sgm.binding g).cfg = some b →
    let u := (s.sgm.binding g).run
    let supplies (c : Fin 48) := ∃ ch, s.sgm.channels[c] = some ch ∧ ch.cfg.sig = g
    ((¬supplies b.primary ∨ ∃ c ∈ b.secondary, ¬supplies c) → s.isLost g = true) ∧
    (supplies b.primary → (∀ c ∈ b.secondary, supplies c) →
      ∀ ch, s.sgm.channels[match u.selection with | .primary => b.primary | .secondary => b.secondary.getD b.primary] = some ch →
        let last := ch.run.lastGood.getD 0
        match ch.run.state with
        | .never | .stale => s.reading g = ⟨last, .lost⟩
        | .suspect => if u.disagree = true then ∀ v, u.held = some v → s.reading g = ⟨v, .held⟩ else s.reading g = ⟨last, .held⟩
        | .fresh => if u.disagree = true then ∀ v, u.held = some v → s.reading g = ⟨v, .held⟩ else s.reading g = ⟨last, .good⟩)) ∧
  (let readers : List Reader := match e.sig with
     | .fwa | .art | .odo | .gear => [.rse]
     | .vsp => [.rse, .bdu, .rhc, .dic, .tic]
     | .rsa => [.rse, .dic]
     | .bpd | .blf | .blm | .blr => [.bdu]
     | .apf => []
     | .apm | .apr => [.bdu, .cft]
     | .hfl | .hfr | .hml | .hmr | .hrl | .hrr | .rsv | .ksw | .frz => [.rhc]
     | .ds1 | .ds2 | .ds3 | .ds4 => [.dic, .cft]
     | .drq => [.bdu, .dic]
   ∃ order : List Reader, order.Perm readers ∧ deliver e s = order.foldl (fun t r => readerEvent r e t) s) ∧
  (∀ t, readerEvent .tic e t = if e.sig = .vsp then reportSource .speedLost (e.quality == .lost) t else t) ∧
  (e.arrival = false → readerEvent .cft e s = s)

/-- The switching of a redundant pair and its disagreement (R7, R21, R22, R23, R24). -/
def Obligations.SelectionAndDisagreementFollowTheirRules : Prop :=
  ∀ (g : Sig) (b : BindCfg) (c2 : Fin 48) (ch1 ch2 : Channel) (s : State),
  let u := (s.sgm.binding g).run
  let k := s.ctr.sgm.binds[g.num]
  let put (r : BindRun) (onset moved : Bool) : State :=
    let n : BindCtr := ⟨if moved = true then bump k.switches else k.switches, if onset = true then bump k.disagreements else k.disagreements⟩
    { s with
      sgm := { s.sgm with bindings := s.sgm.bindings.set g.num ⟨(s.sgm.binding g).cfg, r⟩ }
      ctr := { s.ctr with sgm := { s.ctr.sgm with binds := s.ctr.sgm.binds.set g.num n } } }
  ((∀ b', (s.sgm.binding g).cfg = some b' → b'.secondary = none) → evalSelection g s = s ∧ evalDisagreement g s = s) ∧
  ((s.sgm.binding g).cfg = some b → b.secondary = some c2 → s.sgm.channels[b.primary] = some ch1 → s.sgm.channels[c2] = some ch2 →
    ch1.cfg.sig = g → ch2.cfg.sig = g →
    let r1 := ch1.run
    let r2 := ch2.run
    let delivers := r2.state = .fresh ∨ r2.state = .suspect
    let out := u.selection = .primary ∧ b.autoSwitch = true ∧ r1.state = .stale ∧ delivers
    let back := u.selection = .secondary ∧ ((b.back = .revert ∧ 8 ≤ r1.goodRun) ∨ (¬delivers ∧ r1.state = .fresh))
    (out → evalSelection g s = put ⟨.secondary, false, 0, 0, u.held⟩ false true) ∧
    (back → evalSelection g s = put ⟨.primary, false, 0, 0, u.held⟩ false true) ∧
    (¬out → ¬back → evalSelection g s = s) ∧
    (b.limit = none → evalDisagreement g s = s) ∧
    ∀ limit, b.limit = some limit →
      (¬(r1.state = .fresh ∧ r2.state = .fresh) →
        evalDisagreement g s = put { u with mismatchRun := 0, matchRun := 0 } false false) ∧
      ∀ v1 v2, r1.state = .fresh → r2.state = .fresh → r1.lastGood = some v1 → r2.lastGood = some v2 →
        if (limit : Int) < (v1 - v2).natAbs then
          let n := min 3 (u.mismatchRun + 1)
          let begins := n = 3 ∧ u.disagree = false
          (begins → evalDisagreement g s =
            put ⟨u.selection, true, n, 0, some (s.value g)⟩ true false) ∧
          (¬begins → evalDisagreement g s = put { u with mismatchRun := n, matchRun := 0 } false false)
        else
          let n := min 3 (u.matchRun + 1)
          evalDisagreement g s =
            put { u with mismatchRun := 0, matchRun := n, disagree := if n = 3 then false else u.disagree } false false)

/-- The driver's commands at the doors, and the release gate (R110, R111, R112, R113, R114, R115, R117, R121, R124, R125). The model's choice (DESIGN CHOICE, log entry 5): R110 orders the three kinds and the releases alone; that emergency resets and a close-all too are taken door by door from 1 to 4, and that the release gates are evaluated last, is the model's. -/
def Obligations.DriverCommandsMoveTheDoors : Prop :=
  ∀ (d : Door) (v : Int) (s : State),
  let r := s.door d
  let bit (n : Nat) : Bool := ((v % 256).toNat / 2 ^ n) % 2 == 1
  let releases : PerDoor Bool := ⟨bit 0, bit 1, bit 2, bit 3⟩
  let locked (x : DoorRec) : DoorRec := { x with
    state := .locked, action := .none, relPending := false, prep := .stopped, dwell := .stopped, warn := .stopped
    obstructions := 0, suspended := false, resetSeen := false, faultFlag := false }
  let released (x : DoorRec) : DoorRec := { x with state := .released, action := .permit, relPending := false, prep := .stopped }
  let newReset := bit 6 && !s.dic.last.emergencyReset
  let newClose := bit 4 && !s.dic.last.closeAll
  let taken (b : Bool) (g : Door → State → State) (t : State) : State := if b = true then g .d4 (g .d3 (g .d2 (g .d1 t))) else t
  (drqArrival v s = evalGates
    (taken (!newClose) (fun d t => if releases.get d = true ∧ s.dic.last.release.get d = false then releaseBitDoor d t else t)
      (taken newClose closeAllDoor
        (taken newReset emergencyResetDoor
          (s.setDic { s.dic with last := ⟨releases, bit 4, bit 6⟩ }))))) ∧
  (r.state = .locked →
    let t := releaseBitDoor d s
    let p := { r with state := .preparing, relPending := true, prep := .running (s.now + s.parN .prepTimeout) }
    t.door d = if t.releaseGate d = true then released p else p) ∧
  (r.state = .closing →
    if s.releaseGate d = true then
      (releaseBitDoor d s).door d = { r with state := .released, action := .permit, warn := .stopped, dwell := .stopped } ∧
      (releaseBitDoor d s).cft = (if r.action = .withdraw then s.cft.filter fun e => e.key != .doorLock d else s.cft) ∧
      ((releaseBitDoor d s).ctr.dic.get d).releases = bump (s.ctr.dic.get d).releases
    else releaseBitDoor d s = s) ∧
  (r.state ≠ .locked → r.state ≠ .closing → releaseBitDoor d s = s) ∧
  (r.state = .preparing → (closeAllDoor d s).door d = locked r) ∧
  (r.state ≠ .preparing → r.state ≠ .released → r.state ≠ .opened → closeAllDoor d s = s) ∧
  (r.state = .opened → s.parN .warnMs ≠ 0 →
    (closeAllDoor d s).door d = { r with state := .closing, action := .warn, warn := .running (s.now + s.parN .warnMs) }) ∧
  (r.state = .released ∨ (r.state = .opened ∧ s.parN .warnMs = 0) →
    (closeAllDoor d s).door d = { r with state := .closing, action := .withdraw, warn := .stopped } ∧
    (closeAllDoor d s).cft.getLast? = some ⟨.doorLock d, s.now + s.parN .lockTimeout⟩) ∧
  (r.state ≠ .emergency → r.state ≠ .fault → emergencyResetDoor d s = s) ∧
  (s.isLost (statusSig d) = true ∨ s.value (statusSig d) % 8 ≠ 0 →
    (r.state = .emergency → emergencyResetDoor d s = s.putDoor d { r with resetSeen := true }) ∧
    (r.state = .fault → emergencyResetDoor d s = s)) ∧
  (r.state = .fault ∨ r.state = .emergency → s.isLost (statusSig d) = false → s.value (statusSig d) % 8 = 0 →
    (emergencyResetDoor d s).door d = locked r) ∧
  ((drqLost s).door d = (if r.state = .preparing then locked r else r) ∧
    ((drqLost s).ctr.dic.get d).cancellations =
      (if r.state = .preparing then bump (s.ctr.dic.get d).cancellations else (s.ctr.dic.get d).cancellations)) ∧
  (s.releaseGate d = true ↔
    (s.isGood .vsp = true ∧ s.value .vsp ≤ s.par .releaseSpeed) ∧ s.bdu.stopBrake = .applied ∧
    ((s.dic.table.get d).sect = .rear → (s.isGood .rsa = true ∧ ((s.value .rsa).natAbs : Int) ≤ s.par .centreBand) ∨
      128 ≤ s.value .drq % 256) ∧
    s.rhc.kneel ≠ .raising ∧ s.cft.length < 3) ∧
  (let t := evalGates s
   (t.door d = if r.state = .preparing ∧ s.releaseGate d = true then released r else r) ∧
   ((t.ctr.dic.get d).releases =
     if r.state = .preparing ∧ s.releaseGate d = true then bump (s.ctr.dic.get d).releases else (s.ctr.dic.get d).releases) ∧
   t = { s with dic := { s.dic with doors := t.dic.doors }, ctr := { s.ctr with dic := t.ctr.dic } })

/-- The doors at their status records, at VSP, and at the report that DOOR_LOCK is satisfied (R69, R115, R116, R117, R118, R119, R120, R122, R123, R124, R126, R136). That a VSP event evaluates EMERGENCY, then the doors from 1 to 4, then the release gates, is the model's choice (DESIGN CHOICE, log entry 5). What counts as one event at the block, with its urgent DCM and the end of almost full after it (blockEvent), is the model's reading (DEDUCED, log entry 6). -/
def Obligations.DoorSignalsMoveTheDoors : Prop :=
  ∀ (d : Door) (e : SigEvent) (s : State),
  let r := s.door d
  let drive := (e.value % 8).toNat
  let lost := e.was ≠ .lost ∧ e.quality = .lost
  let locked : DoorRec := { r with
    state := .locked, action := .none, relPending := false, prep := .stopped, dwell := .stopped, warn := .stopped
    obstructions := 0, suspended := false, resetSeen := false, faultFlag := false }
  let warned : DoorRec := if s.parN .warnMs = 0 then { r with state := .closing, action := .withdraw, warn := .stopped }
    else { r with state := .closing, action := .warn, warn := .running (s.now + s.parN .warnMs) }
  let faulted : DoorRec := { r with state := .fault, action := .withdraw, faultFlag := true, resetSeen := false }
  let vented : DoorRec := { r with
    state := .emergency, action := .none, relPending := false, resetSeen := false, prep := .stopped, dwell := .stopped, warn := .stopped }
  let dwellTime := (s.dic.table.get d).dwellTime
  let started (suspended : Bool) : DwellTimer := if 0 < dwellTime ∧ suspended = false then .running (s.now + dwellTime) else .stopped
  let unlocked (t : State) := t.cft = if r.state = .closing ∧ r.action = .withdraw then s.cft.filter fun x => x.key != .doorLock d else s.cft
  let gone (t : State) := r.state = .closing → r.action = .withdraw → ∀ x ∈ t.cft, x.key ≠ .doorLock d
  readerEvent .dic e s = blockEvent (dicEvent e) s ∧
  (e.sig = statusSig d → lost →
    let t := dicEvent e s
    t = { s.putDoor d { r with statusUnknown := true } with tic := t.tic, ctr := { s.ctr with tic := t.ctr.tic }, lines := t.lines } ∧
    t.lines.stopHold = s.lines.stopHold ∧ (t.source .doorStatusLost).active = true) ∧
  (e.sig = statusSig d → ¬lost → e.arrival = false → dicEvent e s = s) ∧
  (e.sig = statusSig d → ¬lost → e.arrival = true → r.statusUnknown = false → dicEvent e s = statusArrival d e.value s) ∧
  (e.sig = statusSig d → ¬lost → e.arrival = true → r.statusUnknown = true → ∃ u : State,
    u = { s.putDoor d { r with statusUnknown := false } with tic := u.tic, ctr := { s.ctr with tic := u.ctr.tic }, lines := u.lines } ∧
    u.lines.stopHold = s.lines.stopHold ∧ ((u.source .doorStatusLost).active = true ↔ ∃ j, j ≠ d ∧ (s.door j).statusUnknown = true) ∧
    dicEvent e s = if r.state = .locked then checkLockedDoor d e.value u else statusArrival d e.value u) ∧
  (r.state = .locked →
    let t := checkLockedDoor d e.value s
    if drive = 0 then t = s
    else if drive = 6 then t.door d = vented ∧ (t.ctr.dic.get d).vents = bump (s.ctr.dic.get d).vents
    else if drive = 7 then t.door d = faulted ∧ (t.ctr.dic.get d).faults = bump (s.ctr.dic.get d).faults
    else t.door d = warned ∧ (t.ctr.dic.get d).foundUnlocked = bump (s.ctr.dic.get d).foundUnlocked ∧
      (s.parN .warnMs = 0 → t.cft.getLast? = some ⟨.doorLock d, s.now + s.parN .lockTimeout⟩)) ∧
  (let t := statusArrival d e.value s
   let n := bump255 r.obstructions
   let full := s.parN .obstructLimit ≤ n
   let suspended := r.suspended || decide full
   if drive = 6 ∧ r.state ≠ .emergency then
     t.door d = vented ∧ (t.ctr.dic.get d).vents = bump (s.ctr.dic.get d).vents ∧ gone t ∧ (t.source .emergency).active = true ∧
     t.bdu.req.emergency = (s.isLost .vsp || decide (s.value .vsp < s.par .emgSpeed))
   else if r.state = .released ∧ (drive = 2 ∨ drive = 3) then
     t.dic = (s.putDoor d { r with state := .opened, dwell := started r.suspended }).dic ∧ t.bdu = s.bdu ∧ t.cft = s.cft
   else if r.state = .opened ∧ 8 ≤ e.value ∧ drive ≠ 6 ∧ (s.dic.table.get d).dwellMode = .retrigger ∧ r.dwell.isRunning = true then
     t = s.putDoor d { r with dwell := .running (s.now + dwellTime) }
   else if r.state = .closing ∧ drive = 5 then
     t.dic = (s.putDoor d { r with
       state := .opened, action := .permit, warn := .stopped, obstructions := n, suspended := suspended
       dwell := if full then .stopped else if r.dwell.isRunning = true then r.dwell else started suspended }).dic ∧
     t.ctr.dic.get d = { s.ctr.dic.get d with
       obstructions := bump (s.ctr.dic.get d).obstructions
       suspensions := if full ∧ r.suspended = false then bump (s.ctr.dic.get d).suspensions else (s.ctr.dic.get d).suspensions } ∧
     unlocked t
   else if r.state = .emergency ∧ drive = 7 then
     t.door d = faulted ∧ (t.ctr.dic.get d).faults = bump (s.ctr.dic.get d).faults ∧ t.bdu.req.emergency =
       ((allDoors.any fun j => j != d && (s.door j).state == .emergency) &&
         (s.isLost .vsp || decide (s.value .vsp < s.par .emgSpeed)))
   else if r.state = .emergency ∧ drive = 0 ∧ r.resetSeen = true then t.door d = locked
   else t = s) ∧
  (e.sig = .vsp →
    let move (j : Door) (t : State) : State := if (t.door j).state = .released ∨ (t.door j).state = .opened then closeAllDoor j t else t
    let u := request .emergency
      ((allDoors.any fun j => (s.door j).state == .emergency) && (s.isLost .vsp || decide (s.value .vsp < s.par .emgSpeed))) s
    dicEvent e s = evalGates
      (if e.arrival = true ∧ s.par .releaseSpeed < e.value then move .d4 (move .d3 (move .d2 (move .d1 u))) else u)) ∧
  (s.expects (.doorLock d) = false → satisfy (.doorLock d) s = s) ∧
  (s.expects (.doorLock d) = true →
    let t := satisfy (.doorLock d) s
    t.ctr.cft.doorLock.satisfied = bump s.ctr.cft.doorLock.satisfied ∧ (∀ x ∈ t.cft, x.key ≠ .doorLock d) ∧
    (r.state = .closing → r.action = .withdraw → t.door d = locked) ∧
    (r.state ≠ .closing ∨ r.action ≠ .withdraw → t.dic = s.dic ∧ t.cft = s.cft.filter fun x => x.key != .doorLock d)) ∧
  (e.sig = statusSig d →
    (e.arrival = true → drive = 0 → (s.cft.map (·.key)).Nodup → readerEvent .cft e s = blockEvent (satisfy (.doorLock d)) s) ∧
    (e.arrival = false ∨ drive ≠ 0 → readerEvent .cft e s = s)) ∧
  (e.sig = .rsa → dicEvent e s = evalGates s) ∧
  (e.sig = .drq → dicEvent e s = if lost then drqLost s else if e.arrival = true then drqArrival e.value s else s) ∧
  (e.sig ∉ [Sig.vsp, .rsa, .drq, .ds1, .ds2, .ds3, .ds4] → dicEvent e s = s)

/-- The kneel and level switch, kneel and raise requests, their cancellation, the kneel gate, entries, and the report of doors LOCKED (R90, R91, R92, R93, R94, R95, R96, R97, R98, R99, R109). That an entry evaluates completion only where it changes a corner's state is the model's reading (DEDUCED, log entry 13). The clause of a KSW event that brings LOST, which cancels a pending kneel without comparing the position carried, is the model's reading of R92 and R95 (DEDUCED, unsafe, log entry 35). -/
def Obligations.KneelAndSwitchRequestsFollowTheirRules : Prop :=
  ∀ (o : Origin) (d : Door) (e : SigEvent) (s : State),
  let origin := if s.rhc.origin = .manual ∧ o = .auto then .manual else o
  let refused := s.countRhc fun k => { k with refusedKneels := bump k.refusedKneels }
  let pos : SwitchPos := match e.value with | 1 => .kneel | 2 => .raise | 3 => .high | 4 => .ride | _ => .none
  let levelling (j : Corner) := (s.corner j).state ≠ .off ∧ s.isLost (heightSig j) = false
  let forced (g : Corner → Int) (j : Corner) : CornerRec :=
    if levelling j then { s.corner j with target := g j, state := .active, wake := .stopped, quiet := 0 }
    else { s.corner j with target := g j }
  let settled (g : Corner → Int) (j : Corner) : CornerRec :=
    let x := forced g j
    if x.state ≠ .active then x
    else if s.rhc.freeze = true then { x with state := .frozen, wake := .stopped, quiet := 0, pulse := none }
    else { x with quiet := 0 }
  let completes (g : Corner → Int) := (∃ j ∈ allCorners, levelling j ∧ (s.corner j).state ≠ .active) ∧
    ∀ j ∈ allCorners, levelling j → ((g j - s.value (heightSig j)).natAbs : Int) ≤ s.par .deadband
  (e.was ≠ .lost → e.quality = .lost → rhcKsw e s = (let t := cancelKneel s; t.setRhc { t.rhc with lastPos := .none })) ∧
  (e.was = .lost ∨ e.quality ≠ .lost → rhcKsw e s = if pos = s.rhc.lastPos then s else
    let t := s.setRhc { s.rhc with lastPos := pos }
    match pos with
    | .kneel => kneelRequest .manual t
    | .raise => if s.rhc.kneel = .ride then cancelKneel t else raiseRequest t
    | .high =>
      if s.rhc.level = .ride ∧ s.rhc.kneel = .ride ∧ s.rhc.pending = .none ∧ s.isLost .vsp = false ∧ s.value .vsp ≤ s.par .highSpeed then
        setLevel .high t
      else t.countRhc fun k => { k with refusedHigh := bump k.refusedHigh }
    | .ride =>
      let u := if s.rhc.kneel = .ride then cancelKneel t else t
      if u.rhc.level = .high then setLevel .ride u else u
    | .none => t) ∧
  (s.rhc.kneel = .ride → s.rhc.fault = true → kneelRequest o s = refused) ∧
  (s.rhc.kneel = .ride → s.rhc.fault = false → s.rhc.pending = .kneel →
    kneelRequest o s = s.setRhc { s.rhc with origin := origin }) ∧
  (s.rhc.kneel = .ride → s.rhc.fault = false → s.rhc.pending ≠ .kneel →
    let t := kneelRequest o s
    t.bdu.req.kneel = true ∧ t.rhc.origin = origin ∧
    (t.rhc.kneel = .ride ∧ t.rhc.pending = .kneel ∧ t.kneelGate = false ∨
      (t.rhc.kneel = .lowering ∨ t.rhc.kneel = .knelt) ∧ t.rhc.pending = .none ∧ t.rhc.level = .kneel)) ∧
  (s.rhc.kneel = .lowering ∨ s.rhc.kneel = .knelt →
    kneelRequest o s = s.setRhc { s.rhc with pending := .none, origin := origin }) ∧
  (s.rhc.kneel = .raising → (s.isGood .vsp = true ∧ s.value .vsp ≤ s.par .kneelSpeed) →
    let t := kneelRequest o s
    (t.rhc.kneel = .lowering ∨ t.rhc.kneel = .knelt) ∧ t.rhc.level = .kneel ∧ t.rhc.pending = .none ∧ t.rhc.origin = origin ∧
    t.rhc.raiseTimer = .stopped ∧ t.ctr.rhc.reversals = bump s.ctr.rhc.reversals) ∧
  (s.rhc.kneel = .raising → ¬(s.isGood .vsp = true ∧ s.value .vsp ≤ s.par .kneelSpeed) → kneelRequest o s = refused) ∧
  (s.rhc.kneel = .ride ∨ s.rhc.kneel = .raising → raiseRequest s = s) ∧
  (s.rhc.kneel = .lowering ∨ s.rhc.kneel = .knelt →
    ((∃ d, (s.door d).state ≠ .locked) → raiseRequest s = s.setRhc { s.rhc with pending := .raise }) ∧
    ((∀ d, (s.door d).state = .locked) →
      let t := raiseRequest s
      (t.rhc.kneel = .raising ∨ t.rhc.kneel = .ride) ∧ t.rhc.level = .ride ∧ t.rhc.pending = .none ∧ t.rhc.kneelTimer = .stopped)) ∧
  (s.rhc.pending ≠ .kneel → cancelKneel s = s) ∧
  (s.rhc.pending = .kneel →
    let t := cancelKneel s
    t.rhc = { s.rhc with pending := .none, origin := .none } ∧ t.bdu.req = { s.bdu.req with kneel := false } ∧
    t.ctr.rhc = { s.ctr.rhc with cancellations := bump s.ctr.rhc.cancellations }) ∧
  (s.kneelGate = true ↔
    (s.isGood .vsp = true ∧ s.value .vsp ≤ s.par .kneelSpeed) ∧ s.bdu.stopBrake = .applied ∧ s.rhc.airOk = true ∧
    s.parN .kneelReserve ≤ s.rhc.airEstimate ∧ s.cft.length < 3 ∧
    ∃ k ∈ [Corner.fr, .mr, .rr], (s.corner k).state ≠ .off ∧ s.isLost (heightSig k) = false) ∧
  (let t := enterLowering s
   let g : Corner → Int := s.rhc.offsets.get
   let v : Rhc := { s.rhc with
     kneel := .lowering, level := .kneel, pending := .none, incomplete := false, raiseTimer := .stopped
     kneelTimer := .running (s.now + s.parN .kneelTimeout), corners := PerCorner.ofFn (forced g) }
   t.rhc = (if completes g then { v with kneel := .knelt, kneelTimer := .stopped, corners := PerCorner.ofFn (settled g) } else v) ∧
   t.rse.holds.kneel = true ∧ (t.source .kneel).active = true ∧ (t.source .highLevel).active = false ∧ t.bdu = s.bdu) ∧
  (let t := enterRaising s
   let g : Corner → Int := fun _ => 0
   let v : Rhc := { s.rhc with
     kneel := .raising, level := .ride, pending := .none, kneelTimer := .stopped
     raiseTimer := if s.rhc.airOk = true ∧ s.rhc.fault = false then .running (s.now + s.parN .raiseTimeout) else s.rhc.raiseTimer
     corners := PerCorner.ofFn (forced g) }
   if completes g then
     t.rhc = { v with kneel := .ride, raiseTimer := .stopped, origin := .none, corners := PerCorner.ofFn (settled g) } ∧
     t.rse.holds.kneel = false ∧ (t.source .kneel).active = false ∧ t.bdu.req = { s.bdu.req with kneel := false }
   else t.rhc = v ∧ t.rse.holds.kneel = true ∧ (t.source .kneel).active = true ∧ t.bdu = s.bdu) ∧
  (allDoorsLocked s = match s.rhc.kneel with
    | .ride => if s.rhc.origin = .auto then cancelKneel s else s
    | .lowering | .knelt => if s.rhc.origin = .auto ∨ s.rhc.pending = .raise then enterRaising s else s
    | .raising => s) ∧
  ((s.door d).state ≠ .locked → (∀ j, j ≠ d → (s.door j).state = .locked) →
    let t := lockDoor d s
    let u := setHold .door false (request .doors false (s.putDoor d (s.door d).lock))
    u.rhc = s.rhc ∧ t.rhc = (allDoorsLocked u).rhc ∧ t.bdu.req.doors = false ∧ t.rse.holds.door = false ∧
    (t.source .doorOpen).active = false)

/-- The ride height controller at its signal events: height samples, OFF and recovery, the freeze flag, speed, the air estimate and the air state (R81, R82, R83, R84, R85, R87, R88, R90, R94, R95, R96, R97). That a VSP event evaluates the freeze flag, then the return from HIGH, then the speed rules of R95 and R97, then the kneel gate, is the model's choice (DESIGN CHOICE, log entry 5); that WAKE is left at once with wake_ms 0 and that an event with no change of a corner's state completes no kneel are its readings (DEDUCED, log entries 12 and 13). What counts as one event at the block, with its urgent DCM and the end of almost full after it (blockEvent), is the model's reading (DEDUCED, log entry 6). -/
def Obligations.LevelSignalsMoveTheCornersAndTheAir : Prop :=
  ∀ (k : Corner) (e : SigEvent) (s : State),
  let r := s.corner k
  let lost := e.was ≠ .lost ∧ e.quality = .lost
  let back := e.was = .lost ∧ e.quality ≠ .lost
  let moving := s.rhc.kneel = .lowering ∨ s.rhc.kneel = .raising
  let levelling (j : Corner) := (s.corner j).state ≠ .off ∧ s.isLost (heightSig j) = false
  let inBand := ∀ j, levelling j → (((s.corner j).target - s.value (heightSig j)).natAbs : Int) ≤ s.par .deadband
  let flagged := if ∀ j ∈ allCorners, ¬levelling j then s.setRhc { s.rhc with incomplete := true } else s
  let off : CornerRec := { r with state := .off, pulse := none, wake := .stopped, quiet := 0 }
  let frozen (x : CornerRec) : CornerRec := { x with state := .frozen, wake := .stopped, quiet := 0, pulse := none }
  let woken (x : CornerRec) : CornerRec :=
    if s.parN .wakeMs = 0 then { x with state := .active, quiet := 0, wake := .stopped, pulse := none }
    else { x with state := .wake, wake := .running (s.now + s.parN .wakeMs), pulse := none }
  let recovered : CornerRec :=
    if moving then { r with state := .active, quiet := 0, wake := .stopped, pulse := none }
    else if s.rhc.freeze = true then frozen r else woken { r with quiet := 0 }
  let fresh (err : Int) : Pulse := ⟨if 0 < err then .raise else .lower,
    (clamp (s.par .pulseMin) (s.par .pulseMax) (roundDiv (err.natAbs * s.par .pulseGain) 4)).toNat⟩
  let judged (x : CornerRec) : CornerRec :=
    let err := x.target - e.value
    let band (n : Int) := (err.natAbs : Int) ≤ n
    match x.state with
    | .active =>
      if ¬band (s.par .deadband) then { x with quiet := 0, pulse := some (fresh err) }
      else if moving then { x with quiet := 0, pulse := none }
      else { x with quiet := x.quiet + 1, pulse := none, state := if s.parN .quietCount ≤ x.quiet + 1 then .quiet else .active }
    | .quiet => if band (s.par .wakeBand) then x else woken x
    | .wake => if band (s.par .deadband) then { x with state := .quiet, wake := .stopped } else x
    | .frozen | .off => x
  readerEvent .rhc e s = blockEvent (rhcEvent e) s ∧
  (e.sig = heightSig k → lost →
    let u := (s.putCorner k off).countCorner k fun c => { c with offEntries := bump c.offEntries }
    rhcEvent e s = evalKneelGate (if r.state = .off then u else checkComplete u)) ∧
  (e.sig = heightSig k → ¬lost → e.arrival = true →
    let x := if back then recovered else r
    let u := s.putCorner k (judged x)
    let v := if x.state = .wake ∧ (judged x).state = .quiet then u.countCorner k fun c => { c with excursions := bump c.excursions } else u
    rhcEvent e s = evalKneelGate (checkComplete v)) ∧
  (e.sig = heightSig k → ¬lost → e.arrival = false → rhcEvent e s = evalKneelGate s) ∧
  (¬moving ∨ ¬inBand → checkComplete s = s) ∧
  (s.rhc.kneel = .lowering → inBand → checkComplete s = enterKnelt flagged) ∧
  (s.rhc.kneel = .raising → inBand → checkComplete s = enterRide flagged) ∧
  (evalKneelGate s = if s.rhc.pending = .kneel ∧ s.rhc.kneel = .ride ∧ s.kneelGate = true then enterLowering s else s) ∧
  (let on := s.isLost .frz = false ∧ s.value .frz = 1 ∧ (s.isLost .vsp = true ∨ s.par .kneelSpeed < s.value .vsp)
   let after (j : Corner) : CornerRec :=
     let x := s.corner j
     if on then
       if s.isLost (heightSig j) = false ∧ (x.state = .quiet ∨ x.state = .wake ∨ (x.state = .active ∧ ¬moving)) then frozen x else x
     else if x.state = .frozen then woken x else x
   let u := s.setRhc { s.rhc with freeze := decide on, corners := PerCorner.ofFn after }
   let v := if on then u.countRhc fun c => { c with freezes := bump c.freezes } else u
   (e.sig = .frz → rhcEvent e s = evalFreeze s) ∧
   ((s.rhc.freeze = true ↔ on) → evalFreeze s = s) ∧
   (¬(s.rhc.freeze = true ↔ on) →
     evalFreeze s = evalKneelGate (if ∀ j ∈ allCorners, (after j).state = (s.corner j).state then v else checkComplete v))) ∧
  (e.sig = .vsp →
    let u := evalFreeze s
    let v := if u.rhc.level = .high ∧ (if e.arrival = true then s.par .highSpeed < e.value else lost) then
      (setLevel .ride u).countRhc fun c => { c with highReturns := bump c.highReturns } else u
    rhcEvent e s = evalKneelGate (if e.arrival = true ∧ s.par .kneelSpeed < e.value then raiseRequest (cancelKneel v) else v)) ∧
  (e.sig = .rsv → rhcEvent e s =
    if lost then if s.rhc.airOk = true then setAir false s else s
    else if e.arrival = true then
      let u := s.setRhc { s.rhc with airEstimate := (e.value * 16).toNat }
      let ok := if s.rhc.airOk = true then decide (s.parN .airLow ≤ u.rhc.airEstimate)
        else decide (s.parN .airHigh ≤ u.rhc.airEstimate) && !s.isLost .rsv
      evalKneelGate (if ok = s.rhc.airOk then u else setAir ok u)
    else s) ∧
  (∀ ok : Bool, let t := setAir ok s
    t.rhc.airOk = ok ∧ t.rhc.airEstimate = s.rhc.airEstimate ∧ (t.source .airLow).active = !ok ∧
    (s.rhc.kneel = .raising → t.rhc = { s.rhc with
      airOk := ok
      raiseTimer := if ok = false then .stopped else if s.rhc.fault = true then s.rhc.raiseTimer
        else .running (s.now + s.parN .raiseTimeout) })) ∧
  (e.sig = .ksw → rhcEvent e s = rhcKsw e s) ∧
  (e.sig ∉ [Sig.vsp, .rsv, .ksw, .frz, .hfl, .hfr, .hml, .hmr, .hrl, .hrr] → rhcEvent e s = s)

/-- The urgent path: what an urgent request does, and the events that make one (R70, R108, R180, R182, R185, R187). -/
def Obligations.UrgentFramesFollowTheChange : Prop :=
  ∀ (k : GenKind) (fields : List Byte) (g : State → State) (s : State),
  (k = .bac ∨ k = .dcm →
    let count (h : UrgentCtr → UrgentCtr) (t : State) : State := t.countTxs fun c =>
      if k = .bac then { c with urgentBac := h c.urgentBac } else { c with urgentDcm := h c.urgentDcm }
    let entries := s.txs.table.toList.filterMap fun x => x.filter fun e => e.kind == k
    urgentRequest k fields s =
      if s.mode = .config then s
      else match entries with
        | [] => count (fun c => { c with noEntry := bump c.noEntry }) s
        | e :: _ =>
          if 8 ≤ s.urgent.length then count (fun c => { c with refusals := bump c.refusals }) s
          else count (fun c => { c with builds := bump c.builds })
            (placeFrame .chassis .urgent ⟨e.idKind, e.ident, payloadOf k fields s.txs.alive[k.idx]⟩
              (s.setTxs { s.txs with alive := s.txs.alive.set k.idx (s.txs.alive[k.idx] + 1) }))) ∧
  (withDcm g s =
    if (allDoors.map fun d => ((g s).door d).action) = (allDoors.map fun d => (s.door d).action) then g s
    else urgentRequest .dcm ((allDoors.map fun d =>
      match ((g s).door d).action with | .none => (0 : Byte) | .permit => 1 | .warn => 2 | .withdraw => 3)) (g s)) ∧
  (let t := enterApplying s
   let u := place .stopApply (s.parN .applyTimeout)
     ((setStopBrake .applying s).setBdu { (setStopBrake .applying s).bdu with drag := false })
   t = (urgentRequest .bac u.bacFields u).countBdu (fun c => { c with applications := bump c.applications }) ∧
   (0 ≤ s.par .stopP → s.par .stopP ≤ 65535 → s.par .pMax ≤ 65535 → u.bdu.stopBrake = .applying →
     byteAt u.bacFields 9 % 2 = 1 ∧ s.parN .stopP ≤ word16At u.bacFields 2 ∧ s.parN .stopP ≤ word16At u.bacFields 4))

/-- The steering engine's work at an FWA arrival: the append, the ageing, the crossfade and the clamped target (R31, R32, R41, R44, R45, R46). -/
def Obligations.FrontAngleArrivalComputesTheTarget : Prop :=
  ∀ (fwa : Int) (s : State),
  let s1 := appendSample fwa s
  let spaced := ∀ x ∈ s.rse.trace.getLast?, s.parN .spacing ≤ s.behind x
  (∀ o, s.rse.odoNow = some o → s.traceSuspended = false → spaced →
    let full := 48 ≤ s.rse.trace.length
    let w := (if full then s.rse.trace.tail else s.rse.trace) ++ [⟨o, fwa⟩]
    ∃ gone kept, w = gone ++ kept ∧ kept ≠ [] ∧
      (∀ x ∈ (gone ++ kept.take 1).tail, s.parN .lag ≤ s.behind x) ∧ (∀ y ∈ kept[1]?, s.behind y < s.parN .lag) ∧
      s1 = { s with rse := { s.rse with trace := kept }
                    ctr := { s.ctr with rse := { s.ctr.rse with
                      overflows := if full then bump s.ctr.rse.overflows else s.ctr.rse.overflows } } }) ∧
  (s.rse.odoNow = none ∨ s.traceSuspended = true ∨ ¬spaced → s1 = s) ∧
  (s1.steerMode = .centreHold → fwaArrival fwa s = s1) ∧
  (s1.steerMode ≠ .centreHold →
    let t := fwaArrival fwa s
    let product (q : Profile) : Int := roundDiv (s1.followAngle fwa * q.gainAt (s1.value .vsp)) 16384
    let told := product s1.rse.profiles[s1.rse.active]
    let within (out : Int) : Int := if out < t.window.lo then t.window.lo else if t.window.hi < out then t.window.hi else out
    match s1.rse.xfade.target with
    | none => t = s1.setRse { s1.rse with target := within told }
    | some p =>
      let alpha := min 255 (s1.rse.xfade.alpha + s1.rse.xfade.step)
      let tnew := product s1.rse.profiles[p]
      if alpha = 255 then
        t = (s1.setRse { s1.rse with target := within tnew, active := p, xfade := { s1.rse.xfade with target := none, alpha := 255 } }).countRse
          fun k => { k with crossfades := bump k.crossfades }
      else
        t = s1.setRse { s1.rse with target := within (roundDiv (tnew * alpha + told * (255 - alpha)) 255)
                                    xfade := { s1.rse.xfade with alpha := alpha } })

/-- The steering engine at its signal events: the trace at ODO and GEAR, tracking supervision and the steer fault, INPUT and the jackknife warning (R26, R27, R28, R29, R30, R33, R34, R35, R36, R50, R51, R53). That an FWA arrival does the work of R41 before INPUT is evaluated is the model's reading (DEDUCED, log entry 11). What counts as one event at the block, with its urgent DCM and the end of almost full after it (blockEvent), is the model's reading (DEDUCED, log entry 6). -/
def Obligations.SteeringSignalsMoveTheTraceAndTheSupervision : Prop :=
  ∀ (e : SigEvent) (s : State),
  let lost := e.was ≠ .lost ∧ e.quality = .lost
  let back := e.was = .lost ∧ e.quality ≠ .lost
  let v : Dist := BitVec.ofInt 16 e.value
  let input (t : State) : State :=
    let b := t.isLost .fwa || t.isLost .art || t.isLost .vsp
    t.setRse { t.rse with
      holds := { t.rse.holds with input := b }, target := if b = true ∧ t.rse.holds.isEmpty = true then 0 else t.rse.target }
  let changed := e.arrival = false ∨ e.was ≠ e.quality
  let latched (t : State) :=
    t.rse = { s.rse with
      fault := true, mismatchRun := 0, holds := { s.rse.holds with fault := true }
      target := if s.rse.holds.isEmpty = true then 0 else s.rse.target } ∧
    t.ctr.rse = { s.ctr.rse with steerFaults := bump s.ctr.rse.steerFaults } ∧ (t.source .steerFault).active = true ∧
    t = { s with rse := t.rse, tic := t.tic, ctr := { s.ctr with rse := t.ctr.rse, tic := t.ctr.tic }, lines := t.lines } ∧
    t.lines.stopHold = s.lines.stopHold
  readerEvent .rse e s = blockEvent (rseEvent e) s ∧
  s.traceState = (if s.rse.odoNow = none ∨ s.isLost .odo = true ∨ s.rse.reverse = true then .suspended
    else match s.rse.trace with
      | [] => .empty
      | x :: _ => if s.parN .lag ≤ s.behind x then .ready else .filling) ∧
  (e.sig = .odo →
    let t := rseEvent e s
    (back → t = s.setRse { s.rse with trace := [], odoNow := some v }) ∧
    (¬back → e.arrival = false → t = s) ∧
    (¬back → e.arrival = true →
      match s.rse.odoNow with
      | none => t = s.setRse { s.rse with trace := [], odoNow := some v }
      | some o =>
        let a := ((e.value - (o.toNat : Int)) % 65536).toNat
        if s.rse.reverse = true then t = s.setRse { s.rse with odoNow := some v }
        else if a = 0 then t = s
        else if s.parN .odoMaxStep < a then
          t = (s.setRse { s.rse with trace := [], odoNow := some v }).countRse fun c => { c with discontinuities := bump c.discontinuities }
        else
          let gone := s.rse.trace.takeWhile fun x => decide (65536 ≤ s.behind x + a)
          let kept := s.rse.trace.dropWhile fun x => decide (65536 ≤ s.behind x + a)
          t = (s.setRse { s.rse with trace := kept, odoNow := some v }).countRse fun c =>
            { c with expiries := bumpBy c.expiries gone.length })) ∧
  (e.sig = .gear → rseEvent e s =
    let on := e.value == 2
    if on = s.rse.reverse then s
    else s.setRse { s.rse with
      reverse := on, trace := if on then [] else s.rse.trace, holds := { s.rse.holds with reverse := on }
      target := if on = true ∧ s.rse.holds.isEmpty = true then 0 else s.rse.target }) ∧
  (e.sig = .rsa →
    let t := rseEvent e s
    if s.rse.fault = true then t = s
    else if lost then latched t
    else if e.arrival = false then t = s
    else if ((e.value - s.rse.issued).natAbs : Int) ≤ s.par .trackTol then t = s.setRse { s.rse with mismatchRun := 0 }
    else if s.parN .trackCount ≤ s.rse.mismatchRun + 1 then latched t
    else t = s.setRse { s.rse with mismatchRun := s.rse.mismatchRun + 1 }) ∧
  (e.sig = .art ∨ e.sig = .vsp →
    let t := rseEvent e s
    let u := if changed then input s else s
    let w := !s.isLost .art && !s.isLost .vsp && decide (s.par .jkAngle < ((s.value .art).natAbs : Int)) &&
      decide (s.par .jkSpeed < s.value .vsp)
    if w = s.rse.jackknife then t = u
    else t.rse = { u.rse with jackknife := w } ∧ (t.source .jackknife).active = w ∧
      t.ctr.rse = { s.ctr.rse with
        jackknifeOnsets := if w then bump s.ctr.rse.jackknifeOnsets else s.ctr.rse.jackknifeOnsets } ∧
      t = { s with rse := t.rse, tic := t.tic, ctr := { s.ctr with rse := t.ctr.rse, tic := t.ctr.tic }, lines := t.lines } ∧
      t.lines.stopHold = s.lines.stopHold) ∧
  (e.sig = .fwa → rseEvent e s =
    let u := if e.arrival = true then fwaArrival e.value s else s
    if changed then input u else u) ∧
  (e.sig ∉ [Sig.fwa, .art, .vsp, .odo, .gear, .rsa] → rseEvent e s = s)

/-- A placement is never refused: it supersedes its own kind and unit silently, appends, and into a full queue evicts the head and reports it (R131, R132, R133, R134, R138, R139, R141). -/
def Obligations.PlacementSupersedesAppendsAndEvicts : Prop :=
  ∀ (k : ExpKey) (ms : Nat) (s : State),
  (s.cft.length ≤ 4 → (s.cft.map (·.key)).Nodup → s.expects k = true →
  let t := place k ms s
  let u := { s with cft := s.cft.filter (fun e => e.key != k)
                    ctr := { s.ctr with cft := { s.ctr.cft with superseded := bump s.ctr.cft.superseded } } }
  let v := if s.cft.length = 3 then almostFullEnded u else u
  t.cft = s.cft.filter (fun e => e.key != k) ++ [⟨k, s.now + ms⟩] ∧
  t = { v with cft := t.cft, ctr := { v.ctr with cft := t.ctr.cft } } ∧
  t.ctr.cft.superseded = bump s.ctr.cft.superseded ∧
  t.ctr.cft.almostFullOnsets = (if s.cft.length = 3 then bump s.ctr.cft.almostFullOnsets else s.ctr.cft.almostFullOnsets) ∧
  t.ctr.cft.peak = max s.ctr.cft.peak s.cft.length) ∧
  (s.expects k = false → s.cft.length ≤ 4 →
  let q := s.cft ++ [⟨k, s.now + ms⟩]
  let t := place k ms s
  (s.cft.length < 4 → t.cft = q ∧ t = { s with cft := q, ctr := { s.ctr with cft := t.ctr.cft } } ∧
    t.ctr.cft.almostFullOnsets = (if s.cft.length = 2 then bump s.ctr.cft.almostFullOnsets else s.ctr.cft.almostFullOnsets)) ∧
  (s.cft.length = 4 → ∃ v ∈ s.cft.head?, ∃ c, t.cft = q.tail ∧
    t = reportFailed v.key { s with cft := q.tail, ctr := { s.ctr with cft := c } } ∧
    c.almostFullOnsets = s.ctr.cft.almostFullOnsets) ∧
  (match k with
   | .doorLock _ => t.ctr.cft.doorLock.placed = bump s.ctr.cft.doorLock.placed
   | .stopApply => t.ctr.cft.stopApply.placed = bump s.ctr.cft.stopApply.placed
   | .stopRelease => t.ctr.cft.stopRelease.placed = bump s.ctr.cft.stopRelease.placed))

/-- DEADLINE_EXPIRY removes the entry and its placer takes the timeout (R2, R72, R74, R119, R122, R137). -/
def Obligations.DeadlineExpiryReportsATimeout : Prop :=
  ∀ (d : Door) (k : ExpKey) (s : State),
  ((∀ e ∈ s.cft, e.key = k → s.now < e.due) → exec (.deadlineExpiry k) s = .next (s)) ∧
  (∀ e ∈ s.cft, e.key = k → e.due ≤ s.now → ∃ t, exec (.deadlineExpiry k) s = .next t ∧
    JobFrame s t ∧ t.cft = s.cft.filter (fun e => e.key != k) ∧
    (k = .doorLock d → (s.door d).state = .closing → (s.door d).action = .withdraw →
      t.door d = { s.door d with state := .fault, faultFlag := true, dwell := .stopped } ∧
      (t.ctr.dic.get d).faults = bump (s.ctr.dic.get d).faults ∧ t.ctr.cft.doorLock.timedOut = bump s.ctr.cft.doorLock.timedOut) ∧
    (k = .stopApply → s.bdu.stopBrake = .applying →
      t.bdu = { s.bdu with stopBrake := .fault } ∧ t.lines.stopHold = true ∧ t.ctr.bdu.applyFaults = bump s.ctr.bdu.applyFaults ∧
      t.ctr.cft.stopApply.timedOut = bump s.ctr.cft.stopApply.timedOut) ∧
    (k = .stopRelease → s.bdu.stopBrake = .releasing →
      t.bdu = { s.bdu with stopBrake := .released, drag := true } ∧ t.lines.stopHold = false ∧
      t.ctr.bdu.drags = bump s.ctr.bdu.drags ∧ t.ctr.cft.stopRelease.timedOut = bump s.ctr.cft.stopRelease.timedOut))

/-- WAKE_, KNEEL_, RAISE_ and RECOVERY_TIMER_EXPIRY, and RELEASE_GAP_EXPIRY (R2, R83, R85, R96, R97, R98, R146, R147, R153, R172). -/
def Obligations.LevelPortAndGapTimersActInTheirStates : Prop :=
  ∀ (k : Corner) (p : PortId) (s : State),
  ((s.corner k).wake.ended s.now = false → exec (.wakeTimerExpiry k) s = .next (s)) ∧
  ((s.corner k).wake.ended s.now = true → (s.corner k).state = .wake → s.rhc.kneel = .ride ∨ s.rhc.kneel = .knelt →
    s.rhc.pending ≠ .kneel →
    exec (.wakeTimerExpiry k) s = .next (s.putCorner k { s.corner k with state := .active, quiet := 0, wake := .stopped })) ∧
  (s.rhc.kneelTimer.ended s.now = false → exec (.kneelTimerExpiry) s = .next (s)) ∧
  (s.rhc.kneelTimer.ended s.now = true → s.rhc.kneel = .lowering → (∀ d, (s.door d).state ≠ .preparing) →
    exec (.kneelTimerExpiry) s = .next ((s.setRhc { s.rhc with
      kneel := .knelt, kneelTimer := .stopped, incomplete := true
      corners := PerCorner.ofFn fun j =>
        let r := s.corner j
        if r.state ≠ .active then r
        else if s.rhc.freeze = true then { r with state := .frozen, wake := .stopped, quiet := 0, pulse := none }
        else { r with quiet := 0 } }).countRhc fun c => { c with incompleteKneels := bump c.incompleteKneels })) ∧
  (s.rhc.raiseTimer.ended s.now = false → exec (.raiseTimerExpiry) s = .next (s)) ∧
  (s.rhc.raiseTimer.ended s.now = true → s.rhc.kneel = .raising →
    exec (.raiseTimerExpiry) s = .next ((s.setRhc { s.rhc with raiseTimer := .stopped, fault := true }).countRhc fun c =>
      { c with kneelFaults := bump c.kneelFaults })) ∧
  (exec (.recoveryTimerExpiry p) s = .next (if (s.port p).recovery.ended s.now = true then s.setPort p { s.port p with recovery := .stopped, retryReady := true } else s)) ∧
  exec (.releaseGapExpiry) s = .next (if s.tic.combined = .gap ∧ s.tic.gapTimer.ended s.now = true then
      { s with
        tic := { s.tic with combined := .permitted, gapTimer := .stopped }
        lines := { s.lines with tractionPermit := true }
        ctr := { s.ctr with tic := { s.ctr.tic with permitOnsets := bump s.ctr.tic.permitOnsets } } }
    else s)

/-- PREP_, DWELL_ and WARN_TIMER_EXPIRY (R2, R107, R114, R117, R118, R132). -/
def Obligations.DoorTimersActInTheirStates : Prop :=
  ∀ (d : Door) (s : State),
  let r := s.door d
  (r.prep.ended s.now = false → exec (.prepTimerExpiry d) s = .next (s)) ∧
  (r.prep.ended s.now = true → r.state = .preparing → ∃ t, exec (.prepTimerExpiry d) s = .next t ∧
    JobFrame s t ∧
    t.door d = { r with state := .locked, action := .none, relPending := false, prep := .stopped, dwell := .stopped
                        warn := .stopped, obstructions := 0, suspended := false, resetSeen := false, faultFlag := false } ∧
    (t.ctr.dic.get d).prepTimeouts = bump (s.ctr.dic.get d).prepTimeouts ∧
    (s.cft.length < 3 → ∀ e, e ≠ d → t.door e = s.door e)) ∧
  (r.dwell.ended s.now = false → exec (.dwellTimerExpiry d) s = .next (s)) ∧
  (r.dwell.ended s.now = true → r.state ≠ .opened → exec (.dwellTimerExpiry d) s = .next (s.putDoor d { r with dwell := .expired })) ∧
  (r.dwell.ended s.now = true → r.state = .opened → ∃ t, exec (.dwellTimerExpiry d) s = .next t ∧
    JobFrame s t ∧
    t.door d = (if s.parN .warnMs = 0 then { r with state := .closing, action := .withdraw, warn := .stopped, dwell := .expired }
      else { r with state := .closing, action := .warn, warn := .running (s.now + s.parN .warnMs), dwell := .expired }) ∧
    (s.parN .warnMs ≠ 0 → t.cft = s.cft) ∧ (s.cft.length < 3 → ∀ e, e ≠ d → t.door e = s.door e)) ∧
  (r.warn.ended s.now = false → exec (.warnTimerExpiry d) s = .next (s)) ∧
  (r.warn.ended s.now = true → r.state = .closing → ∃ t, exec (.warnTimerExpiry d) s = .next t ∧
    JobFrame s t ∧
    t.door d = { r with action := .withdraw, warn := .stopped } ∧
    t.cft.getLast? = some ⟨.doorLock d, s.now + s.parN .lockTimeout⟩ ∧
    (s.cft.length < 3 → ∀ e, e ≠ d → t.door e = s.door e))

/-- MODE_REQUEST: the cases of R193, and what a change of mode does (R191, R192, R193, R194). -/
def Obligations.ModeRequestFollowsItsTable : Prop :=
  ∀ (tag : Byte) (m : Byte) (s : State),
  s.svr.response = none →
  (let want : Mode := if m = 1 then .run else .service
   exec (.modeRequest tag m) s = .next (if m ≠ 1 ∧ m ≠ 2 then answered s 0x02 tag 8 [] s
     else if s.mode = want then answered s 0x02 tag 0 [] s
     else if s.svr.pointer.isSome = true then answered s 0x02 tag 11 [] s
     else if s.mode = .run then
       if s.isGood .vsp = true ∧ s.value .vsp ≤ 100 ∧ s.bdu.stopBrake = .applied then
         answered s 0x02 tag 0 [] (changeMode .service s)
       else answered s 0x02 tag 4 [] s
     else match s.commitFailure with
       | some (t, i) => answered s 0x02 tag 12 (b1 t ++ b2 i)
           ((s.setSvr { s.svr with lastCommit := .checkFailed t i }).countSvr fun k =>
             { k with commitFailures := bump k.commitFailures })
       | none => answered s 0x02 tag 0 [] (changeMode want (s.setSvr { s.svr with lastCommit := .ok })))) ∧
  (∀ w : Mode,
    let t := changeMode w s
    t.mode = w ∧ t.rse.holds.mode = (w != .run) ∧ t.bdu.req.mode = (w != .run) ∧ (t.source .mode).active = (w != .run) ∧
    t.rse.holds.input = (s.isLost .fwa || s.isLost .art || s.isLost .vsp) ∧
    t.ctr.svr = { s.ctr.svr with modeChanges := bump s.ctr.svr.modeChanges } ∧
    (s.mode = .config → t.svr = { s.svr with reqId := svcIdOf (s.par .svcReqId), rspId := svcIdOf (s.par .svcRspId) }) ∧
    (s.mode ≠ .config → t.svr = s.svr) ∧
    t.params = s.params ∧ t.sgm = s.sgm ∧ t.routes = s.routes ∧ t.txs.table = s.txs.table ∧ t.dic.table = s.dic.table ∧
    t.rhc.offsets = s.rhc.offsets ∧ t.rse.profiles = s.rse.profiles ∧ t.ports.cab = s.ports.cab) ∧
  (let badRoute (i : Fin 128) := ∃ e c, s.routes[i] = some e ∧ (e.action = .tap c ∨ e.action = .passTap c) ∧ s.sgm.channels[c] = none
   let fills (g : Sig) (role : Position) (c : Fin 48) := ∃ ch, s.sgm.channels[c] = some ch ∧ ch.cfg.sig = g ∧ ch.cfg.role = role
   let badBinding (g : Sig) := ∃ b, (s.sgm.binding g).cfg = some b ∧
     ¬(fills g .primary b.primary ∧ ∀ c ∈ b.secondary, fills g .secondary c)
   let kinds : List GenKind := [.rsc, .bac, .vlc1, .vlc2, .vlc3, .dcm]
   let missing (n : Fin 6) := ∀ k ∈ kinds[n.val]?, ∀ (i : Fin 32) (e : SchedEntry), s.txs.table[i] = some e → e.kind ≠ k
   (∀ i, badRoute i → (∀ j < i, ¬badRoute j) → s.commitFailure = some (0, i.val)) ∧
   ((∀ i, ¬badRoute i) →
     (∀ g, badBinding g → (∀ h : Sig, h.num < g.num → ¬badBinding h) → s.commitFailure = some (2, g.num.val)) ∧
     ((∀ g, ¬badBinding g) →
       (∀ n, missing n → (∀ m < n, ¬missing m) → s.commitFailure = some (3, n.val)) ∧
       ((∀ n, ¬missing n) → s.commitFailure =
         if 48 < s.parN .lag / s.parN .spacing + 2 then some (15, 17)
         else if s.rse.profiles[s.rse.active].valid = false then some (8 + s.rse.active.val, 0)
         else if s.par .airHigh ≤ s.par .airLow then some (15, 57)
         else if s.par .wakeBand ≤ s.par .deadband then some (15, 49)
         else if svcIdOf (s.par .svcReqId) = svcIdOf (s.par .svcRspId) then some (15, 113)
         else none))))

/-- PARAM_READ and PARAM_WRITE: the cases of R199, and the effect that each parameter's rule gives a write (R199, R191, R47, R54, R77, R101, R127, R152, R210). At a write of release_speed the doors are taken from 1 to 4, the model's choice (DESIGN CHOICE, log entry 5); a write of release_speed, kneel_speed or high_speed while VSP is LOST is judged by the standing value, its reading (DEDUCED, log entry 24); one event at the blocks, as log entry 6 has it (DEDUCED). The model's choice (DESIGN CHOICE, log entry 39): a negative mech is BAD_VALUE, its range tested before BAD_STATE; R47, R54 and R199 give no order. -/
def Obligations.ParameterRequestsFollowTheirTable : Prop :=
  ∀ (tag : Byte) (k : ParamId) (n : BitVec 16) (v : BitVec 32) (s : State),
  s.svr.response = none →
  (n.toNat = k.row.number → exec (.paramRead tag n) s = .next (answered s 0x03 tag 0 (i4 (s.par k)) s)) ∧
  ((∀ j : ParamId, j.row.number ≠ n.toNat) →
    exec (.paramRead tag n) s = .next (answered s 0x03 tag 7 [] s) ∧ exec (.paramWrite tag n v) s = .next (answered s 0x04 tag 7 [] s)) ∧
  (n.toNat = k.row.number →
    let x := v.toInt
    let pairWrong := (k = .stopP ∧ s.par .pMax < x) ∨ (k = .pMax ∧ x < s.par .stopP) ∨
      (k = .pulseMin ∧ s.par .pulseMax < x) ∨ (k = .pulseMax ∧ x < s.par .pulseMin)
    let identifier := k = .svcReqId ∨ k = .svcRspId
    let outside := if identifier then ¬(v.toNat ≤ 2047 ∨ 0x80000000 ≤ v.toNat ∧ v.toNat ≤ 0x9FFFFFFF)
      else x < k.row.lo ∨ k.row.hi < x
    if s.mode = .run ∨ (identifier ∧ s.mode = .service) then exec (.paramWrite tag n v) s = .next (answered s 0x04 tag 3 [] s)
    else if outside ∨ pairWrong then exec (.paramWrite tag n v) s = .next (answered s 0x04 tag 8 [] s)
    else if k = .mech ∧ x < s.rse.issued.natAbs then exec (.paramWrite tag n v) s = .next (answered s 0x04 tag 5 [] s)
    else ∃ t, exec (.paramWrite tag n v) s = .next (answered s 0x04 tag 0 [] t) ∧
    t.params = s.params.set k x ∧ t.mode = s.mode ∧ t.sgm = s.sgm ∧ t.routes = s.routes ∧ t.txs.table = s.txs.table ∧
      t.svr = s.svr ∧ t.ports.cab = s.ports.cab ∧
      (k ∈ [ParamId.staleMult, .odoMaxStep, .slew, .trackTol, .trackCount, .stopP, .stopTol, .releaseTol, .jkBias, .applyTimeout,
        .releaseTimeout, .wakeBand, .quietCount, .wakeMs, .pulseGain, .pulseMin, .pulseMax, .raiseCost, .kneelTimeout,
        .raiseTimeout, .prepTimeout, .warnMs, .lockTimeout, .obstructLimit, .releaseGap, .torqueCap, .defaultCab,
        .defaultChassis, .svcReqId, .svcRspId] → t = s.setParams (s.params.set k x)) ∧
      (let u := s.setParams (s.params.set k x)
       let v := u.value .vsp
       let warned := !u.isLost .art && !u.isLost .vsp && decide (u.par .jkAngle < ((u.value .art).natAbs : Int)) &&
         decide (u.par .jkSpeed < v)
       let ok := if u.rhc.airOk = true then decide (u.parN .airLow ≤ u.rhc.airEstimate)
         else decide (u.parN .airHigh ≤ u.rhc.airEstimate) && !u.isLost .rsv
       let weight (lost : Bool) (j : ParamId) (n : Int) : Nat := if lost = true then u.parN j else n.toNat
       let combined (c : Combined) (g : Timer) : State := { u with
         tic := { u.tic with combined := c, gapTimer := g }, lines := { u.lines with tractionPermit := c == .permitted } }
       let closes (j : Door) (y : State) : State :=
         if (y.door j).state = .opened ∨ ((y.door j).state = .released ∧ y.isLost .vsp = false) then closeAllDoor j y else y
       let effect : State := match k with
         | .spacing | .lag => u.setRse { u.rse with trace := [] }
         | .mech => u.setRse { u.rse with target :=
           if u.rse.target < u.window.lo then u.window.lo else if u.window.hi < u.rse.target then u.window.hi else u.rse.target }
         | .jkAngle | .jkSpeed =>
           if warned = u.rse.jackknife then u
           else reportSource .jackknife warned ((u.setRse { u.rse with jackknife := warned }).countRse fun c =>
             { c with jackknifeOnsets := if warned then bump c.jackknifeOnsets else c.jackknifeOnsets })
         | .centreBand => evalGates u
         | .pMax =>
           if u.isLost .bpd = true then (u.setBdu { u.bdu with demand := 0, backup := true }).countBdu fun c =>
             { c with backupOnsets := if u.bdu.backup = true then c.backupOnsets else bump c.backupOnsets }
           else u.setBdu { u.bdu with demand := (roundDiv (u.value .bpd * x) 1000).toNat, backup := false }
         | .staticWF | .staticWM | .staticWR =>
           if u.rhc.kneel ≠ .ride then u
           else u.setBdu { u.bdu with weights := ⟨weight (u.isLost .blf) .staticWF (u.value .blf),
             weight (u.isLost .blm) .staticWM (u.value .blm), weight (u.isLost .blr) .staticWR (u.value .blr)⟩ }
         | .stopSpeed => if u.bdu.stopBrake = .pending ∧ u.isGood .vsp = true ∧ v ≤ x then enterApplying u else u
         | .emgSpeed => request .emergency
           ((allDoors.any fun j => (u.door j).state == .emergency) && (u.isLost .vsp || decide (v < x))) u
         | .airLow | .airHigh => if ok = u.rhc.airOk then u else setAir ok u
         | .kneelSpeed => let y := evalFreeze u
           evalKneelGate (if x < v then cancelKneel y else y)
         | .kneelReserve => evalKneelGate u
         | .highOffset =>
           if u.rhc.level ≠ .high then u
           else u.setRhc { u.rhc with corners := PerCorner.ofFn fun j => { u.corner j with target := x } }
         | .highSpeed =>
           if u.rhc.level = .high ∧ x < v then (setLevel .ride u).countRhc fun c => { c with highReturns := bump c.highReturns } else u
         | .deadband => checkComplete u
         | .releaseSpeed => let y := evalGates u
           if x < v then closes .d4 (closes .d3 (closes .d2 (closes .d1 y))) else y
         | .enableMask => match u.tic.combined, u.anyEffective with
           | .permitted, true => (combined .inhibited .stopped).countTic fun c => { c with inhibitOnsets := bump c.inhibitOnsets }
           | .gap, true => combined .inhibited .stopped
           | .inhibited, false =>
             if u.parN .releaseGap = 0 then (combined .permitted .stopped).countTic fun c => { c with permitOnsets := bump c.permitOnsets }
             else combined .gap (.running (u.now + u.parN .releaseGap))
           | _, _ => u
         | _ => u
       t = blockEvent (fun _ => effect) u))

/-- TABLE_OPEN: the cases of R196. TABLE_CLOSE: NOT_OPEN, OK, or the validation of a profile (R39, R40, R195, R196, R198, R207). -/
def Obligations.TableOpenAndCloseFollowTheirTables : Prop :=
  ∀ (tag table : Byte) (index : BitVec 16) (s : State),
  s.svr.response = none →
  (exec (.tableOpen tag table index) s = .next (match TableId.ofNumber table.toNat with
    | none => answered s 0x05 tag 6 [] s
    | some x =>
      if s.svr.pointer.isSome = true then answered s 0x05 tag 11 [] s
      else if x.size ≤ index.toNat then answered s 0x05 tag 7 [] s
      else
        let u := s.setSvr { s.svr with pointer := some (x, index.toNat) }
        match x with
        | .profile p =>
          if s.rse.xfade.target = some p ∨ (s.rse.active = p ∧ s.rse.profiles[p].valid = true ∧ s.mode ≠ .config) then
            answered s 0x05 tag 10 [] s
          else answered s 0x05 tag 0 []
            (u.setRse { u.rse with profiles := u.rse.profiles.set p { s.rse.profiles[p] with valid := false } })
        | _ => answered s 0x05 tag 0 [] u)) ∧
  let u := s.setSvr { s.svr with pointer := none }
  match s.svr.pointer with
  | none => exec (.tableClose tag) s = .next (answered s 0x08 tag 9 [] s)
  | some (.profile p, _) =>
    let q := s.rse.profiles[p]
    let header := 2 ≤ q.n ∧ q.n ≤ 16 ∧ -2000 ≤ q.lo ∧ q.lo ≤ 0 ∧ 0 ≤ q.hi ∧ q.hi ≤ 2000
    let point (i : Nat) := 0 ≤ (q.point i).speed ∧ (q.point i).speed ≤ 12000 ∧ (i = 0 ∨ (q.point (i - 1)).speed < (q.point i).speed) ∧
      -16384 ≤ (q.point i).gain ∧ (q.point i).gain ≤ 16384
    q.valid = false →
    (header → (∀ i < q.n, point i) →
      exec (.tableClose tag) s = .next (answered s 0x08 tag 0 []
        (u.setRse { u.rse with profiles := u.rse.profiles.set p { q with valid := true } }))) ∧
    (¬header → exec (.tableClose tag) s = .next (answered s 0x08 tag 12 (b1 (8 + p) ++ b2 0) u) ∧ u.rse.profiles[p].valid = false ∧ u.rse = s.rse) ∧
    (∀ i < q.n, header → (∀ j < i, point j) → ¬point i →
      exec (.tableClose tag) s = .next (answered s 0x08 tag 12 (b1 (8 + p) ++ b2 (1 + i)) u) ∧ u.rse.profiles[p].valid = false ∧ u.rse = s.rse)
  | some (_, _) => exec (.tableClose tag) s = .next (answered s 0x08 tag 0 [] u)

/-- TABLE_WRITE and TABLE_READ: the cases of R197 and the record each table takes (R5, R6, R89, R106, R158, R177, R195, R197, R40, R24). That a binding write that sets a selection standing at SECONDARY back to PRIMARY counts no switch of selection is the model's choice (DESIGN CHOICE, log entry 42), and so is BAD_VALUE before BAD_STATE for a door record (DESIGN CHOICE, log entry 39); that a binding write keeps the held value and that a binding's channel number above 47 is BAD_VALUE are its readings (DEDUCED, log entries 32 and 10). -/
def Obligations.TableWriteAndReadActAtThePointer : Prop :=
  ∀ (tag : Byte) (r : Vector Byte 16) (x : TableId) (i : Nat) (s : State),
  s.svr.response = none →
  (s.svr.pointer = none → exec (.tableWrite tag r) s = .next (answered s 0x06 tag 9 [] s) ∧
    exec (.tableRead tag) s = .next (answered s 0x07 tag 9 [] s)) ∧
  (s.svr.pointer = some (x, i) →
    let moved (u : State) := u.setSvr { u.svr with pointer := some (x, i + 1) }
    let p := r.toList
    if x.size ≤ i then exec (.tableWrite tag r) s = .next (answered s 0x06 tag 7 [] s) ∧
      exec (.tableRead tag) s = .next (answered s 0x07 tag 7 [] s)
    else
      exec (.tableRead tag) s = .next (answered s 0x07 tag 0 (padTo 16 (s.recordBytes x i)) (moved s)) ∧
      (padTo 16 (s.recordBytes x i)).length = 16 ∧
      (if x.isProfile = false ∧ s.mode = .run then exec (.tableWrite tag r) s = .next (answered s 0x06 tag 3 [] s)
       else match x with
        | .route => ∀ j : Fin 128, j.val = i → match parseRoute p with
          | none => exec (.tableWrite tag r) s = .next (answered s 0x06 tag 8 [] s)
          | some e => exec (.tableWrite tag r) s = .next (answered s 0x06 tag 0 [] (moved (s.setRoutes (s.routes.set j e))))
        | .schedule => ∀ j : Fin 32, j.val = i → match parseSchedule p with
          | none => exec (.tableWrite tag r) s = .next (answered s 0x06 tag 8 [] s)
          | some e => exec (.tableWrite tag r) s = .next (answered s 0x06 tag 0 [] (moved (s.setTxs { s.txs with
              table := s.txs.table.set j e, repeats := s.txs.repeats.set j false })))
        | .door => ∀ d, allDoors[i]? = some d → match parseDoor p with
          | none => exec (.tableWrite tag r) s = .next (answered s 0x06 tag 8 [] s)
          | some c => if (s.door d).state = .locked then
              exec (.tableWrite tag r) s = .next (answered s 0x06 tag 0 [] (moved (s.setDic { s.dic with table := s.dic.table.set d c })))
            else exec (.tableWrite tag r) s = .next (answered s 0x06 tag 5 [] s)
        | .kneelOffset => ∀ k, allCorners[i]? = some k → match parseOffset p with
          | none => exec (.tableWrite tag r) s = .next (answered s 0x06 tag 8 [] s)
          | some v => exec (.tableWrite tag r) s = .next (answered s 0x06 tag 0 [] (moved (s.setRhc { s.rhc with
              offsets := s.rhc.offsets.set k v
              corners := s.rhc.corners.set k { s.corner k with
                target := if s.rhc.level = .kneel then v else (s.corner k).target } })))
        | .profile q => exec (.tableWrite tag r) s = .next (answered s 0x06 tag 0 [] (moved (s.setRse { s.rse with
            profiles := s.rse.profiles.set q (s.rse.profiles[q].write i p) })))
        | .channel => ∀ c : Fin 48, c.val = i → match parseChannel c p with
          | none => exec (.tableWrite tag r) s = .next (answered s 0x06 tag 8 [] s)
          | some g => ∃ t, exec (.tableWrite tag r) s = .next (answered s 0x06 tag 0 [] t) ∧
    t.sgm.channels = s.sgm.channels.set c (g.map fun y => ⟨y, .neverRun⟩) ∧ t.ctr.sgm.chans = s.ctr.sgm.chans ∧
              t.svr = { s.svr with pointer := some (x, i + 1) } ∧ t.params = s.params ∧ t.mode = s.mode ∧ t.routes = s.routes
        | .binding => ∀ g, g.num.val = i → match parseBinding g p with
          | none => exec (.tableWrite tag r) s = .next (answered s 0x06 tag 8 [] s)
          | some b => ∃ t, exec (.tableWrite tag r) s = .next (answered s 0x06 tag 0 [] t) ∧
    t.sgm.binding g = ⟨b, { (s.sgm.binding g).run with
                selection := .primary, disagree := false, mismatchRun := 0, matchRun := 0 }⟩ ∧
              (∀ h, h ≠ g → t.sgm.binding h = s.sgm.binding h) ∧
              (∀ c : Fin 48, t.sgm.channels[c] =
                if (∃ y, b = some y ∧ (y.primary = c ∨ y.secondary = some c)) ∧ (s.sgm.channels[c]).map (·.cfg.sig) = some g then
                  (s.sgm.channels[c]).map fun ch => { ch with run := .neverRun }
                else s.sgm.channels[c]) ∧
              t.isLost g = true ∧ t.ctr.sgm = s.ctr.sgm ∧
              t.svr = { s.svr with pointer := some (x, i + 1) } ∧ t.params = s.params ∧ t.mode = s.mode ∧ t.routes = s.routes))

/-- Every table record that a write takes, the EMPTY record among them, reads back as the bytes that mean the same entry (R4, R6, R38, R89, R106, R157, R177, R197, R209). -/
def Obligations.TableRecordsReadBackAsWritten : Prop :=
  (∀ p : List Byte,
  (∀ e, parseRoute p = some (some e) → e.bytes.length = 16 ∧ parseRoute (padTo 16 e.bytes) = some (some e)) ∧
  (∀ c e, parseChannel c p = some (some e) → e.bytes.length ≤ 16 ∧ parseChannel c (padTo 16 e.bytes) = some (some e)) ∧
  (∀ g b, parseBinding g p = some (some b) → b.bytes.length ≤ 16 ∧ parseBinding g (padTo 16 b.bytes) = some (some b)) ∧
  (∀ e, parseSchedule p = some (some e) → e.bytes.length ≤ 16 ∧ parseSchedule (padTo 16 e.bytes) = some (some e)) ∧
  (∀ d, parseDoor p = some d → d.bytes.length ≤ 16 ∧ parseDoor (padTo 16 d.bytes) = some d) ∧
  (∀ v, parseOffset p = some v → parseOffset (padTo 16 (i2 v)) = some v) ∧
  ∀ (q : Profile) (i : Nat), i < 17 →
    let w := q.write i p
    (w.bytes i).length ≤ 16 ∧ w.write i (padTo 16 (w.bytes i)) = w) ∧
  (∀ (rest : List Byte) (c : Fin 48) (g : Sig), let z : List Byte := 0 :: rest
    z.length = 16 → parseRoute z = some none ∧ parseChannel c z = some none ∧ parseBinding g z = some none ∧ parseSchedule z = some none) ∧
  ∀ (s : State) (i : Nat), let zeros : List Byte := List.replicate 16 0
    (∀ h : i < 128, s.routes[i] = none → padTo 16 (s.recordBytes .route i) = zeros) ∧
    (∀ h : i < 48, s.sgm.channels[i] = none → padTo 16 (s.recordBytes .channel i) = zeros) ∧
    (∀ h : i < 27, s.sgm.bindings[i].cfg = none → padTo 16 (s.recordBytes .binding i) = zeros) ∧
    ∀ h : i < 32, s.txs.table[i] = none → padTo 16 (s.recordBytes .schedule i) = zeros

/-- PROFILE_SELECT: the cases of R48, and the start of a crossfade (R46, R48). -/
def Obligations.ProfileSelectFollowsItsTable : Prop :=
  ∀ (tag profile step : Byte) (s : State),
  s.svr.response = none →
  if s.mode ≠ .run then exec (.profileSelect tag profile step) s = .next (answered s 0x09 tag 3 [] s)
  else if 3 < profile.toNat ∨ step = 0 then exec (.profileSelect tag profile step) s = .next (answered s 0x09 tag 8 [] s)
  else if s.rse.xfade.target.isSome = true then exec (.profileSelect tag profile step) s = .next (answered s 0x09 tag 11 [] s)
  else ∀ p : Fin 4, p.val = profile.toNat →
    if p = s.rse.active then exec (.profileSelect tag profile step) s = .next (answered s 0x09 tag 0 [] s)
    else if s.rse.profiles[p].valid = false then exec (.profileSelect tag profile step) s = .next (answered s 0x09 tag 5 [] s)
    else
      let q := s.rse.profiles[p]
      let w := s.window
      let lo := if q.bounded = true ∧ s.rse.holds.isEmpty = true then max w.lo q.lo else w.lo
      let hi := if q.bounded = true ∧ s.rse.holds.isEmpty = true then min w.hi q.hi else w.hi
      exec (.profileSelect tag profile step) s = .next (answered s 0x09 tag 0 [] (s.setRse { s.rse with
        xfade := ⟨some p, 0, step.toNat⟩, target := clamp lo hi s.rse.target }))

/-- IDENTIFY answers the identity code and the summary in 21 bytes; STATE_READ one page of at most 61 bytes, BAD_VALUE or BAD_INDEX (R200, R207, R208, R55, R78, R102, R128, R140, R154, R173, R186). -/
def Obligations.IdentifyAndStateReadAnswerTheState : Prop :=
  ∀ (tag unit page : Byte) (s : State),
  (s.svr.response = none →
  let data := ([0x36, 0x24] : List Byte) ++ b1 (match s.mode with | .config => 0 | .run => 1 | .service => 2) ++ s.svr.reqId.bytes ++ s.svr.rspId.bytes ++
    (match s.svr.pointer with
     | none => ([0xFF, 0xFF, 0xFF] : List Byte)
     | some (t, i) => b1 t.number ++ b2 i) ++
    flag s.svr.snapshot.isSome ++ b2 s.svr.snapNumber ++
    (match s.svr.lastCommit with
     | .none => ([0, 0xFF, 0xFF, 0xFF] : List Byte)
     | .ok => [1, 0xFF, 0xFF, 0xFF]
     | .checkFailed t i => b1 2 ++ b1 t ++ b2 i)
  exec (.identify tag) s = .next (answered s 0x01 tag 0 data s) ∧ data.length = 21) ∧
  (s.svr.response = none →
  s.cft.length ≤ 4 →
  let pages := match unit.toNat with | 0 => 27 | 1 | 3 | 4 | 8 => 2 | _ => 1
  (if 9 < unit.toNat then exec (.stateRead tag unit page) s = .next (answered s 0x0A tag 8 [] s)
  else if pages ≤ page.toNat then exec (.stateRead tag unit page) s = .next (answered s 0x0A tag 7 [] s)
  else ∃ d, d.length ≤ 61 ∧ (s.pages unit.toNat).bind (·[page.toNat]?) = some d ∧
    exec (.stateRead tag unit page) s = .next (answered s 0x0A tag 0 d s)) ∧
  (s.pages 2 = some [b2 s.bdu.demand ++ flag s.bdu.backup ++
    b2 s.bdu.weights.f ++ b2 s.bdu.weights.m ++ b2 s.bdu.weights.r ++ flag (s.rhc.kneel != .ride) ++
    flag (s.bdu.weights.f + s.bdu.weights.m + s.bdu.weights.r == 0) ++
    b2 (s.ratio .f) ++ b2 (s.ratio .m) ++ b2 (s.ratio .r) ++ flag s.rse.jackknife ++
    b2 (s.brakeTarget .f) ++ b2 (s.brakeTarget .m) ++ b2 (s.brakeTarget .r) ++
    ([Axle.f, .m, .r].map fun a => match s.brakeCause a with | .none => (0 : Byte) | .service => 1 | .stop => 2 | .emergency => 3) ++
    flag (s.bdu.stopBrake == .applying || s.bdu.stopBrake == .applied || s.bdu.stopBrake == .fault) ++
    b1 ((if s.bdu.req.doors then 1 else 0) + (if s.bdu.req.driver then 2 else 0) + (if s.bdu.req.kneel then 4 else 0) +
      (if s.bdu.req.mode then 8 else 0) + (if s.bdu.req.emergency then 16 else 0) + (if s.bdu.req.start then 32 else 0)) ++
    (match s.bdu.stopBrake with
     | .released => ([0, 0] : List Byte) | .pending => [1, 0] | .applying => [2, 1] | .applied => [3, 0] | .releasing => [4, 2]
     | .fault => [5, 0]) ++
    flag s.bdu.drag]) ∧
  s.pages 5 = some [b2 s.cft.length ++ flag (decide (3 ≤ s.cft.length)) ++ s.cft.flatMap fun e =>
    (match e.key with
     | .doorLock .d1 => ([0, 1, 0] : List Byte) | .doorLock .d2 => [0, 2, 0] | .doorLock .d3 => [0, 3, 0]
     | .doorLock .d4 => [0, 4, 0] | .stopApply => [1, 0, 1] | .stopRelease => [2, 0, 1]) ++ b4 (e.due - s.now)])

/-- SNAPSHOT copies every counter, COUNTER_READ answers from the copy, and COUNTER_CLEAR sets the counters of its group to 0 and nothing else (R201, R202, R153, R207, R24, R56, R79, R103, R129, R141, R166, R187). -/
def Obligations.CounterRequestsFollowTheirRules : Prop :=
  ∀ (tag group : Byte) (first : BitVec 16) (s : State),
  (s.svr.response = none →
  let n := (s.svr.snapNumber + 1) % 65536
  (∃ t, exec (.snapshot tag) s = .next (answered s 0x0B tag 0 (b2 n) t) ∧
    ∃ c : Snapshot, t = s.setSvr { s.svr with snapNumber := n, snapshot := some c } ∧ c.receiveOccupancy = ⟨s.ports.cab.receive.length, s.ports.chassis.receive.length⟩ ∧
      c.trackerOccupancy = s.cft.length ∧
      c.counters = { s.ctr with tic := { s.ctr.tic with sources := c.counters.tic.sources } } ∧
      ∀ k : Source, c.counters.tic.sources[k.idx] =
        if (s.source k).active = true then { s.ctr.tic.sources[k.idx] with
          activeTime := bump32By s.ctr.tic.sources[k.idx].activeTime (s.now - (s.source k).since) }
        else s.ctr.tic.sources[k.idx]) ∧
  (s.ctr.groups.map (·.length) = [391, 6, 6, 21, 36, 18, 31, 18, 20, 6]) ∧
  match s.svr.snapshot with
  | none => exec (.counterRead tag group first) s = .next (answered s 0x0C tag 5 [] s)
  | some c =>
    if 9 < group.toNat ∧ group.toNat ≠ 255 then exec (.counterRead tag group first) s = .next (answered s 0x0C tag 8 [] s)
    else
      let xs := if group.toNat = 255 then c.counters.groups.flatten else c.counters.groups.getD group.toNat []
      if xs.length ≤ first.toNat then exec (.counterRead tag group first) s = .next (answered s 0x0C tag 7 [] s)
      else exec (.counterRead tag group first) s = .next (answered s 0x0C tag 0
        (b2 s.svr.snapNumber ++ ((xs.drop first.toNat).take 14).flatMap b4) s)) ∧
  (s.svr.response = none →
  let named (j : Nat) := group.toNat = j ∨ group.toNat = 255
  if 9 < group.toNat ∧ group.toNat ≠ 255 then exec (.counterClear tag group) s = .next (answered s 0x0D tag 8 [] s)
  else ∃ t, exec (.counterClear tag group) s = .next (answered s 0x0D tag 0 [] t) ∧
    t = { s with ctr := t.ctr, tic := { s.tic with sources := t.tic.sources } } ∧
    (∀ k, t.source k = if named 6 ∧ (s.source k).active = true then ⟨true, s.now⟩ else s.source k) ∧
    ∀ j < 10, t.ctr.groups[j]? =
      if ¬named j then s.ctr.groups[j]?
      else if j = 5 then some (List.replicate 17 0 ++ [s.cft.length])
      else (s.ctr.groups[j]?).map fun xs => xs.map fun _ => 0)

/-- FAULT_CLEAR of RSE and of RHC; INHIBIT_SET and INHIBIT_CLEAR make MGMT ACTIVE and INACTIVE (R52, R100, R143, R145, R146, R151, R153, R203). -/
def Obligations.FaultClearsAndInhibitRequestsFollowTheirRules : Prop :=
  ∀ (b : Bool) (tag : Byte) (s : State),
  s.svr.response = none →
  ((exec (.faultClearRse tag) s = .next (if s.rse.fault = false then answered s 0x0E tag 0 [] s
      else if ¬(s.isGood .vsp = true ∧ s.value .vsp ≤ 100) then answered s 0x0E tag 4 [] s
      else if ¬(s.isGood .rsa = true ∧ (s.value .rsa).natAbs ≤ s.par .centreBand) then answered s 0x0E tag 5 [] s
      else answered s 0x0E tag 0 [] (reportSource .steerFault false (s.setRse { s.rse with
        fault := false, mismatchRun := 0, holds := { s.rse.holds with fault := false } })))) ∧
  exec (.faultClearRhc tag) s = .next (answered s 0x0E tag 0 []
      (if s.rhc.fault = false then s
       else if s.rhc.kneel = .raising ∧ s.rhc.airOk = true then
         s.setRhc { s.rhc with fault := false, raiseTimer := .running (s.now + s.parN .raiseTimeout) }
       else s.setRhc { s.rhc with fault := false }))) ∧
  (CombinedSound s →
  ∃ t, exec (if b = true then .inhibitSet tag else .inhibitClear tag) s =
      .next (answered s (if b = true then 0x0F else 0x10) tag 0 [] t) ∧
    ((s.source .mgmt).active = b → t = s) ∧ (t.source .mgmt).active = b ∧ (∀ k, k ≠ .mgmt → t.source k = s.source k) ∧
    t = { s with tic := t.tic, lines := { s.lines with tractionPermit := t.lines.tractionPermit }
                 ctr := { s.ctr with tic := t.ctr.tic } } ∧
    CombinedSound t ∧ (s.takesPart .mgmt = false → t.tic.combined = s.tic.combined) ∧
    ((s.source .mgmt).active = false → b = true →
      t.ctr.tic.sources[Source.mgmt.idx].activations = bump s.ctr.tic.sources[Source.mgmt.idx].activations))

/-- RESTART: refused in CONFIG and on a moving bus, otherwise every block takes its WARM values (R204, R25, R57, R80, R104, R130, R142, R155, R174, R188, R206). -/
def Obligations.RestartTakesTheWarmValues : Prop :=
  ∀ (tag : Byte) (s : State),
  s.svr.response = none →
  if s.mode = .config then exec (.restart tag) s = .next (answered s 0x11 tag 3 [] s)
  else if ¬(s.isGood .vsp = true ∧ s.value .vsp ≤ 100) then exec (.restart tag) s = .next (answered s 0x11 tag 4 [] s)
  else ∃ t, exec (.restart tag) s = .next (answered s 0x11 tag 0 [] t) ∧
    t.mode = .service ∧ t.lines = ⟨false, false⟩ ∧ (∀ g, t.isLost g = true) ∧
    (∀ c : Fin 48, t.sgm.channels[c] = (s.sgm.channels[c]).map fun ch => { ch with run := .neverRun }) ∧
    (∀ g, t.sgm.binding g = ⟨(s.sgm.binding g).cfg, .start⟩) ∧
    t.rse = { Rse.cold with profiles := s.rse.profiles, issued := s.rse.issued } ∧ t.bdu = .start s.statics ∧
    t.rhc = .start s.rhc.offsets ∧ t.dic = .start s.dic.table ∧ t.cft = [] ∧ t.tic = .start s.now ∧
    (∀ p, t.port p = { Port.cold with tx := ((unitResetSgm s).port p).tx.map fun x => { x with detached := true } }) ∧ t.urgent = [] ∧
    t.routes = s.routes ∧ t.params = s.params ∧ t.txs = { Txs.cold with table := s.txs.table } ∧
    t.svr = { s.svr with response := none, pointer := none } ∧
    t.ctr.cft = { s.ctr.cft with resetRemovals := bumpBy s.ctr.cft.resetRemovals s.cft.length } ∧
    (∀ p, t.ctr.frt.get p = { s.ctr.frt.get p with
      dropped := bump32By (s.ctr.frt.get p).dropped (s.port p).receive.length }) ∧
    t.ctr.sgm = s.ctr.sgm ∧ t.ctr.rse = s.ctr.rse ∧ t.ctr.bdu = s.ctr.bdu ∧ t.ctr.rhc = s.ctr.rhc ∧ t.ctr.dic = s.ctr.dic ∧
    t.ctr.txs = s.ctr.txs ∧
    (t.ctr.svr.modeChanges = if s.mode = .run then bump s.ctr.svr.modeChanges else s.ctr.svr.modeChanges)

/-- UNIT_RESET of RSE, RHC, SGM and TXS (R25, R58, R105, R155, R175, R188, R205). -/
def Obligations.UnitResetsReinitialiseTheirUnit : Prop :=
  ∀ (tag : Byte) (s : State),
  s.svr.response = none →
  (s.mode ≠ .service →
    exec (.unitResetRse tag) s = .next (answered s 0x12 tag 3 [] s) ∧
    exec (.unitResetRhc tag) s = .next (answered s 0x12 tag 3 [] s) ∧
    exec (.unitResetSgm tag) s = .next (answered s 0x12 tag 3 [] s) ∧
    exec (.unitResetTxs tag) s = .next (answered s 0x12 tag 3 [] s)) ∧
  (s.mode = .service →
    (∃ t, exec (.unitResetRse tag) s = .next (answered s 0x12 tag 0 [] t) ∧
    t.rse = { s.rse with
        trace := [], fault := false, mismatchRun := 0, target := 0, holds := { s.rse.holds with fault := false }
        active := s.rse.xfade.target.getD s.rse.active
        xfade := if s.rse.xfade.target.isSome = true then { s.rse.xfade with target := none, alpha := 0 } else s.rse.xfade } ∧
      t.ctr.rse.crossfades = (if s.rse.xfade.target.isSome = true then bump s.ctr.rse.crossfades else s.ctr.rse.crossfades) ∧
      (t.source .steerFault).active = false ∧ t = { s with rse := t.rse, tic := t.tic, ctr := t.ctr, lines := t.lines }) ∧
    (∃ t, exec (.unitResetSgm tag) s = .next (answered s 0x12 tag 0 [] t) ∧
    OutsideFrame s t ∧ (∀ g, t.isLost g = true) ∧ (∀ g, t.sgm.binding g = ⟨(s.sgm.binding g).cfg, .start⟩) ∧
      (∀ c : Fin 48, t.sgm.channels[c] = (s.sgm.channels[c]).map fun ch => { ch with run := .neverRun }) ∧ t.ctr.sgm = s.ctr.sgm) ∧
    exec (.unitResetTxs tag) s = .next (answered s 0x12 tag 0 [] { s with
        ports := ⟨{ s.ports.cab with scheduled := none }, { s.ports.chassis with scheduled := none }⟩, urgent := []
        txs := { s.txs with repeats := Vector.replicate 32 false, alive := Vector.replicate 7 0 } }) ∧
    (let after (k : Corner) : CornerRec :=
       let x := { s.corner k with pulse := none, quiet := 0, wake := .stopped }
       if s.isLost (heightSig k) = true then { x with state := .off }
       else if s.rhc.kneel = .lowering ∨ s.rhc.kneel = .raising then { x with state := .active }
       else if s.rhc.freeze = true then { x with state := .frozen }
       else if s.parN .wakeMs = 0 then { x with state := .active }
       else { x with state := .wake, wake := .running (s.now + s.parN .wakeMs) }
     let v := s.setRhc { s.rhc with lastPos := .none, pending := .none, corners := PerCorner.ofFn after }
     (s.rhc.pending ≠ .kneel →
       exec (.unitResetRhc tag) s = .next (answered s 0x12 tag 0 [] v)) ∧
     (s.rhc.pending = .kneel → s.rhc.kneel = .ride →
       ∃ t, exec (.unitResetRhc tag) s = .next (answered s 0x12 tag 0 [] t) ∧
    JobFrame s t ∧ t.rhc = { v.rhc with origin := .none } ∧ t.bdu.req = { s.bdu.req with kneel := false } ∧
       t.ctr.rhc = s.ctr.rhc ∧ (t.source .kneel).active = (s.source .kneel).active)))
end

