-- ==== Sys2Proof/Laws/State.lean ====
section
/-! SUPPORT. The small lemmas of the state: what each update leaves in each field, true by `rfl` and in the simp set, so that no later
proof unfolds a record update; and what the collections by port, axle, door and corner, the sets and the parameter table read after a write. -/

namespace Sys2Proof.Machine

set_option Elab.async false

/-! ### One field replaced -/

@[simp] theorem State.setSgm_pending (s : State) (x : Sgm) : (s.setSgm x).pending = s.pending := rfl
@[simp] theorem State.setSgm_now (s : State) (x : Sgm) : (s.setSgm x).now = s.now := rfl
@[simp] theorem State.setSgm_readerPref (s : State) (x : Sgm) : (s.setSgm x).readerPref = s.readerPref := rfl
@[simp] theorem State.setSgm_mode (s : State) (x : Sgm) : (s.setSgm x).mode = s.mode := rfl
@[simp] theorem State.setSgm_params (s : State) (x : Sgm) : (s.setSgm x).params = s.params := rfl
@[simp] theorem State.setSgm_sgm (s : State) (x : Sgm) : (s.setSgm x).sgm = x := rfl
@[simp] theorem State.setSgm_rse (s : State) (x : Sgm) : (s.setSgm x).rse = s.rse := rfl
@[simp] theorem State.setSgm_bdu (s : State) (x : Sgm) : (s.setSgm x).bdu = s.bdu := rfl
@[simp] theorem State.setSgm_rhc (s : State) (x : Sgm) : (s.setSgm x).rhc = s.rhc := rfl
@[simp] theorem State.setSgm_dic (s : State) (x : Sgm) : (s.setSgm x).dic = s.dic := rfl
@[simp] theorem State.setSgm_cft (s : State) (x : Sgm) : (s.setSgm x).cft = s.cft := rfl
@[simp] theorem State.setSgm_tic (s : State) (x : Sgm) : (s.setSgm x).tic = s.tic := rfl
@[simp] theorem State.setSgm_ports (s : State) (x : Sgm) : (s.setSgm x).ports = s.ports := rfl
@[simp] theorem State.setSgm_urgent (s : State) (x : Sgm) : (s.setSgm x).urgent = s.urgent := rfl
@[simp] theorem State.setSgm_routes (s : State) (x : Sgm) : (s.setSgm x).routes = s.routes := rfl
@[simp] theorem State.setSgm_txs (s : State) (x : Sgm) : (s.setSgm x).txs = s.txs := rfl
@[simp] theorem State.setSgm_svr (s : State) (x : Sgm) : (s.setSgm x).svr = s.svr := rfl
@[simp] theorem State.setSgm_ctr (s : State) (x : Sgm) : (s.setSgm x).ctr = s.ctr := rfl
@[simp] theorem State.setSgm_lines (s : State) (x : Sgm) : (s.setSgm x).lines = s.lines := rfl

@[simp] theorem State.setRse_pending (s : State) (x : Rse) : (s.setRse x).pending = s.pending := rfl
@[simp] theorem State.setRse_now (s : State) (x : Rse) : (s.setRse x).now = s.now := rfl
@[simp] theorem State.setRse_readerPref (s : State) (x : Rse) : (s.setRse x).readerPref = s.readerPref := rfl
@[simp] theorem State.setRse_mode (s : State) (x : Rse) : (s.setRse x).mode = s.mode := rfl
@[simp] theorem State.setRse_params (s : State) (x : Rse) : (s.setRse x).params = s.params := rfl
@[simp] theorem State.setRse_sgm (s : State) (x : Rse) : (s.setRse x).sgm = s.sgm := rfl
@[simp] theorem State.setRse_rse (s : State) (x : Rse) : (s.setRse x).rse = x := rfl
@[simp] theorem State.setRse_bdu (s : State) (x : Rse) : (s.setRse x).bdu = s.bdu := rfl
@[simp] theorem State.setRse_rhc (s : State) (x : Rse) : (s.setRse x).rhc = s.rhc := rfl
@[simp] theorem State.setRse_dic (s : State) (x : Rse) : (s.setRse x).dic = s.dic := rfl
@[simp] theorem State.setRse_cft (s : State) (x : Rse) : (s.setRse x).cft = s.cft := rfl
@[simp] theorem State.setRse_tic (s : State) (x : Rse) : (s.setRse x).tic = s.tic := rfl
@[simp] theorem State.setRse_ports (s : State) (x : Rse) : (s.setRse x).ports = s.ports := rfl
@[simp] theorem State.setRse_urgent (s : State) (x : Rse) : (s.setRse x).urgent = s.urgent := rfl
@[simp] theorem State.setRse_routes (s : State) (x : Rse) : (s.setRse x).routes = s.routes := rfl
@[simp] theorem State.setRse_txs (s : State) (x : Rse) : (s.setRse x).txs = s.txs := rfl
@[simp] theorem State.setRse_svr (s : State) (x : Rse) : (s.setRse x).svr = s.svr := rfl
@[simp] theorem State.setRse_ctr (s : State) (x : Rse) : (s.setRse x).ctr = s.ctr := rfl
@[simp] theorem State.setRse_lines (s : State) (x : Rse) : (s.setRse x).lines = s.lines := rfl

@[simp] theorem State.setBdu_pending (s : State) (x : Bdu) : (s.setBdu x).pending = s.pending := rfl
@[simp] theorem State.setBdu_now (s : State) (x : Bdu) : (s.setBdu x).now = s.now := rfl
@[simp] theorem State.setBdu_readerPref (s : State) (x : Bdu) : (s.setBdu x).readerPref = s.readerPref := rfl
@[simp] theorem State.setBdu_mode (s : State) (x : Bdu) : (s.setBdu x).mode = s.mode := rfl
@[simp] theorem State.setBdu_params (s : State) (x : Bdu) : (s.setBdu x).params = s.params := rfl
@[simp] theorem State.setBdu_sgm (s : State) (x : Bdu) : (s.setBdu x).sgm = s.sgm := rfl
@[simp] theorem State.setBdu_rse (s : State) (x : Bdu) : (s.setBdu x).rse = s.rse := rfl
@[simp] theorem State.setBdu_bdu (s : State) (x : Bdu) : (s.setBdu x).bdu = x := rfl
@[simp] theorem State.setBdu_rhc (s : State) (x : Bdu) : (s.setBdu x).rhc = s.rhc := rfl
@[simp] theorem State.setBdu_dic (s : State) (x : Bdu) : (s.setBdu x).dic = s.dic := rfl
@[simp] theorem State.setBdu_cft (s : State) (x : Bdu) : (s.setBdu x).cft = s.cft := rfl
@[simp] theorem State.setBdu_tic (s : State) (x : Bdu) : (s.setBdu x).tic = s.tic := rfl
@[simp] theorem State.setBdu_ports (s : State) (x : Bdu) : (s.setBdu x).ports = s.ports := rfl
@[simp] theorem State.setBdu_urgent (s : State) (x : Bdu) : (s.setBdu x).urgent = s.urgent := rfl
@[simp] theorem State.setBdu_routes (s : State) (x : Bdu) : (s.setBdu x).routes = s.routes := rfl
@[simp] theorem State.setBdu_txs (s : State) (x : Bdu) : (s.setBdu x).txs = s.txs := rfl
@[simp] theorem State.setBdu_svr (s : State) (x : Bdu) : (s.setBdu x).svr = s.svr := rfl
@[simp] theorem State.setBdu_ctr (s : State) (x : Bdu) : (s.setBdu x).ctr = s.ctr := rfl
@[simp] theorem State.setBdu_lines (s : State) (x : Bdu) : (s.setBdu x).lines = s.lines := rfl

@[simp] theorem State.setRhc_pending (s : State) (x : Rhc) : (s.setRhc x).pending = s.pending := rfl
@[simp] theorem State.setRhc_now (s : State) (x : Rhc) : (s.setRhc x).now = s.now := rfl
@[simp] theorem State.setRhc_readerPref (s : State) (x : Rhc) : (s.setRhc x).readerPref = s.readerPref := rfl
@[simp] theorem State.setRhc_mode (s : State) (x : Rhc) : (s.setRhc x).mode = s.mode := rfl
@[simp] theorem State.setRhc_params (s : State) (x : Rhc) : (s.setRhc x).params = s.params := rfl
@[simp] theorem State.setRhc_sgm (s : State) (x : Rhc) : (s.setRhc x).sgm = s.sgm := rfl
@[simp] theorem State.setRhc_rse (s : State) (x : Rhc) : (s.setRhc x).rse = s.rse := rfl
@[simp] theorem State.setRhc_bdu (s : State) (x : Rhc) : (s.setRhc x).bdu = s.bdu := rfl
@[simp] theorem State.setRhc_rhc (s : State) (x : Rhc) : (s.setRhc x).rhc = x := rfl
@[simp] theorem State.setRhc_dic (s : State) (x : Rhc) : (s.setRhc x).dic = s.dic := rfl
@[simp] theorem State.setRhc_cft (s : State) (x : Rhc) : (s.setRhc x).cft = s.cft := rfl
@[simp] theorem State.setRhc_tic (s : State) (x : Rhc) : (s.setRhc x).tic = s.tic := rfl
@[simp] theorem State.setRhc_ports (s : State) (x : Rhc) : (s.setRhc x).ports = s.ports := rfl
@[simp] theorem State.setRhc_urgent (s : State) (x : Rhc) : (s.setRhc x).urgent = s.urgent := rfl
@[simp] theorem State.setRhc_routes (s : State) (x : Rhc) : (s.setRhc x).routes = s.routes := rfl
@[simp] theorem State.setRhc_txs (s : State) (x : Rhc) : (s.setRhc x).txs = s.txs := rfl
@[simp] theorem State.setRhc_svr (s : State) (x : Rhc) : (s.setRhc x).svr = s.svr := rfl
@[simp] theorem State.setRhc_ctr (s : State) (x : Rhc) : (s.setRhc x).ctr = s.ctr := rfl
@[simp] theorem State.setRhc_lines (s : State) (x : Rhc) : (s.setRhc x).lines = s.lines := rfl

@[simp] theorem State.setDic_pending (s : State) (x : Dic) : (s.setDic x).pending = s.pending := rfl
@[simp] theorem State.setDic_now (s : State) (x : Dic) : (s.setDic x).now = s.now := rfl
@[simp] theorem State.setDic_readerPref (s : State) (x : Dic) : (s.setDic x).readerPref = s.readerPref := rfl
@[simp] theorem State.setDic_mode (s : State) (x : Dic) : (s.setDic x).mode = s.mode := rfl
@[simp] theorem State.setDic_params (s : State) (x : Dic) : (s.setDic x).params = s.params := rfl
@[simp] theorem State.setDic_sgm (s : State) (x : Dic) : (s.setDic x).sgm = s.sgm := rfl
@[simp] theorem State.setDic_rse (s : State) (x : Dic) : (s.setDic x).rse = s.rse := rfl
@[simp] theorem State.setDic_bdu (s : State) (x : Dic) : (s.setDic x).bdu = s.bdu := rfl
@[simp] theorem State.setDic_rhc (s : State) (x : Dic) : (s.setDic x).rhc = s.rhc := rfl
@[simp] theorem State.setDic_dic (s : State) (x : Dic) : (s.setDic x).dic = x := rfl
@[simp] theorem State.setDic_cft (s : State) (x : Dic) : (s.setDic x).cft = s.cft := rfl
@[simp] theorem State.setDic_tic (s : State) (x : Dic) : (s.setDic x).tic = s.tic := rfl
@[simp] theorem State.setDic_ports (s : State) (x : Dic) : (s.setDic x).ports = s.ports := rfl
@[simp] theorem State.setDic_urgent (s : State) (x : Dic) : (s.setDic x).urgent = s.urgent := rfl
@[simp] theorem State.setDic_routes (s : State) (x : Dic) : (s.setDic x).routes = s.routes := rfl
@[simp] theorem State.setDic_txs (s : State) (x : Dic) : (s.setDic x).txs = s.txs := rfl
@[simp] theorem State.setDic_svr (s : State) (x : Dic) : (s.setDic x).svr = s.svr := rfl
@[simp] theorem State.setDic_ctr (s : State) (x : Dic) : (s.setDic x).ctr = s.ctr := rfl
@[simp] theorem State.setDic_lines (s : State) (x : Dic) : (s.setDic x).lines = s.lines := rfl

@[simp] theorem State.setCft_pending (s : State) (x : List Expectation) : (s.setCft x).pending = s.pending := rfl
@[simp] theorem State.setCft_now (s : State) (x : List Expectation) : (s.setCft x).now = s.now := rfl
@[simp] theorem State.setCft_readerPref (s : State) (x : List Expectation) : (s.setCft x).readerPref = s.readerPref := rfl
@[simp] theorem State.setCft_mode (s : State) (x : List Expectation) : (s.setCft x).mode = s.mode := rfl
@[simp] theorem State.setCft_params (s : State) (x : List Expectation) : (s.setCft x).params = s.params := rfl
@[simp] theorem State.setCft_sgm (s : State) (x : List Expectation) : (s.setCft x).sgm = s.sgm := rfl
@[simp] theorem State.setCft_rse (s : State) (x : List Expectation) : (s.setCft x).rse = s.rse := rfl
@[simp] theorem State.setCft_bdu (s : State) (x : List Expectation) : (s.setCft x).bdu = s.bdu := rfl
@[simp] theorem State.setCft_rhc (s : State) (x : List Expectation) : (s.setCft x).rhc = s.rhc := rfl
@[simp] theorem State.setCft_dic (s : State) (x : List Expectation) : (s.setCft x).dic = s.dic := rfl
@[simp] theorem State.setCft_cft (s : State) (x : List Expectation) : (s.setCft x).cft = x := rfl
@[simp] theorem State.setCft_tic (s : State) (x : List Expectation) : (s.setCft x).tic = s.tic := rfl
@[simp] theorem State.setCft_ports (s : State) (x : List Expectation) : (s.setCft x).ports = s.ports := rfl
@[simp] theorem State.setCft_urgent (s : State) (x : List Expectation) : (s.setCft x).urgent = s.urgent := rfl
@[simp] theorem State.setCft_routes (s : State) (x : List Expectation) : (s.setCft x).routes = s.routes := rfl
@[simp] theorem State.setCft_txs (s : State) (x : List Expectation) : (s.setCft x).txs = s.txs := rfl
@[simp] theorem State.setCft_svr (s : State) (x : List Expectation) : (s.setCft x).svr = s.svr := rfl
@[simp] theorem State.setCft_ctr (s : State) (x : List Expectation) : (s.setCft x).ctr = s.ctr := rfl
@[simp] theorem State.setCft_lines (s : State) (x : List Expectation) : (s.setCft x).lines = s.lines := rfl

@[simp] theorem State.setTic_pending (s : State) (x : Tic) : (s.setTic x).pending = s.pending := rfl
@[simp] theorem State.setTic_now (s : State) (x : Tic) : (s.setTic x).now = s.now := rfl
@[simp] theorem State.setTic_readerPref (s : State) (x : Tic) : (s.setTic x).readerPref = s.readerPref := rfl
@[simp] theorem State.setTic_mode (s : State) (x : Tic) : (s.setTic x).mode = s.mode := rfl
@[simp] theorem State.setTic_params (s : State) (x : Tic) : (s.setTic x).params = s.params := rfl
@[simp] theorem State.setTic_sgm (s : State) (x : Tic) : (s.setTic x).sgm = s.sgm := rfl
@[simp] theorem State.setTic_rse (s : State) (x : Tic) : (s.setTic x).rse = s.rse := rfl
@[simp] theorem State.setTic_bdu (s : State) (x : Tic) : (s.setTic x).bdu = s.bdu := rfl
@[simp] theorem State.setTic_rhc (s : State) (x : Tic) : (s.setTic x).rhc = s.rhc := rfl
@[simp] theorem State.setTic_dic (s : State) (x : Tic) : (s.setTic x).dic = s.dic := rfl
@[simp] theorem State.setTic_cft (s : State) (x : Tic) : (s.setTic x).cft = s.cft := rfl
@[simp] theorem State.setTic_tic (s : State) (x : Tic) : (s.setTic x).tic = x := rfl
@[simp] theorem State.setTic_ports (s : State) (x : Tic) : (s.setTic x).ports = s.ports := rfl
@[simp] theorem State.setTic_urgent (s : State) (x : Tic) : (s.setTic x).urgent = s.urgent := rfl
@[simp] theorem State.setTic_routes (s : State) (x : Tic) : (s.setTic x).routes = s.routes := rfl
@[simp] theorem State.setTic_txs (s : State) (x : Tic) : (s.setTic x).txs = s.txs := rfl
@[simp] theorem State.setTic_svr (s : State) (x : Tic) : (s.setTic x).svr = s.svr := rfl
@[simp] theorem State.setTic_ctr (s : State) (x : Tic) : (s.setTic x).ctr = s.ctr := rfl
@[simp] theorem State.setTic_lines (s : State) (x : Tic) : (s.setTic x).lines = s.lines := rfl

@[simp] theorem State.setPorts_pending (s : State) (x : PerPort Port) : (s.setPorts x).pending = s.pending := rfl
@[simp] theorem State.setPorts_now (s : State) (x : PerPort Port) : (s.setPorts x).now = s.now := rfl
@[simp] theorem State.setPorts_readerPref (s : State) (x : PerPort Port) : (s.setPorts x).readerPref = s.readerPref := rfl
@[simp] theorem State.setPorts_mode (s : State) (x : PerPort Port) : (s.setPorts x).mode = s.mode := rfl
@[simp] theorem State.setPorts_params (s : State) (x : PerPort Port) : (s.setPorts x).params = s.params := rfl
@[simp] theorem State.setPorts_sgm (s : State) (x : PerPort Port) : (s.setPorts x).sgm = s.sgm := rfl
@[simp] theorem State.setPorts_rse (s : State) (x : PerPort Port) : (s.setPorts x).rse = s.rse := rfl
@[simp] theorem State.setPorts_bdu (s : State) (x : PerPort Port) : (s.setPorts x).bdu = s.bdu := rfl
@[simp] theorem State.setPorts_rhc (s : State) (x : PerPort Port) : (s.setPorts x).rhc = s.rhc := rfl
@[simp] theorem State.setPorts_dic (s : State) (x : PerPort Port) : (s.setPorts x).dic = s.dic := rfl
@[simp] theorem State.setPorts_cft (s : State) (x : PerPort Port) : (s.setPorts x).cft = s.cft := rfl
@[simp] theorem State.setPorts_tic (s : State) (x : PerPort Port) : (s.setPorts x).tic = s.tic := rfl
@[simp] theorem State.setPorts_ports (s : State) (x : PerPort Port) : (s.setPorts x).ports = x := rfl
@[simp] theorem State.setPorts_urgent (s : State) (x : PerPort Port) : (s.setPorts x).urgent = s.urgent := rfl
@[simp] theorem State.setPorts_routes (s : State) (x : PerPort Port) : (s.setPorts x).routes = s.routes := rfl
@[simp] theorem State.setPorts_txs (s : State) (x : PerPort Port) : (s.setPorts x).txs = s.txs := rfl
@[simp] theorem State.setPorts_svr (s : State) (x : PerPort Port) : (s.setPorts x).svr = s.svr := rfl
@[simp] theorem State.setPorts_ctr (s : State) (x : PerPort Port) : (s.setPorts x).ctr = s.ctr := rfl
@[simp] theorem State.setPorts_lines (s : State) (x : PerPort Port) : (s.setPorts x).lines = s.lines := rfl

@[simp] theorem State.setUrgent_pending (s : State) (x : List Frame) : (s.setUrgent x).pending = s.pending := rfl
@[simp] theorem State.setUrgent_now (s : State) (x : List Frame) : (s.setUrgent x).now = s.now := rfl
@[simp] theorem State.setUrgent_readerPref (s : State) (x : List Frame) : (s.setUrgent x).readerPref = s.readerPref := rfl
@[simp] theorem State.setUrgent_mode (s : State) (x : List Frame) : (s.setUrgent x).mode = s.mode := rfl
@[simp] theorem State.setUrgent_params (s : State) (x : List Frame) : (s.setUrgent x).params = s.params := rfl
@[simp] theorem State.setUrgent_sgm (s : State) (x : List Frame) : (s.setUrgent x).sgm = s.sgm := rfl
@[simp] theorem State.setUrgent_rse (s : State) (x : List Frame) : (s.setUrgent x).rse = s.rse := rfl
@[simp] theorem State.setUrgent_bdu (s : State) (x : List Frame) : (s.setUrgent x).bdu = s.bdu := rfl
@[simp] theorem State.setUrgent_rhc (s : State) (x : List Frame) : (s.setUrgent x).rhc = s.rhc := rfl
@[simp] theorem State.setUrgent_dic (s : State) (x : List Frame) : (s.setUrgent x).dic = s.dic := rfl
@[simp] theorem State.setUrgent_cft (s : State) (x : List Frame) : (s.setUrgent x).cft = s.cft := rfl
@[simp] theorem State.setUrgent_tic (s : State) (x : List Frame) : (s.setUrgent x).tic = s.tic := rfl
@[simp] theorem State.setUrgent_ports (s : State) (x : List Frame) : (s.setUrgent x).ports = s.ports := rfl
@[simp] theorem State.setUrgent_urgent (s : State) (x : List Frame) : (s.setUrgent x).urgent = x := rfl
@[simp] theorem State.setUrgent_routes (s : State) (x : List Frame) : (s.setUrgent x).routes = s.routes := rfl
@[simp] theorem State.setUrgent_txs (s : State) (x : List Frame) : (s.setUrgent x).txs = s.txs := rfl
@[simp] theorem State.setUrgent_svr (s : State) (x : List Frame) : (s.setUrgent x).svr = s.svr := rfl
@[simp] theorem State.setUrgent_ctr (s : State) (x : List Frame) : (s.setUrgent x).ctr = s.ctr := rfl
@[simp] theorem State.setUrgent_lines (s : State) (x : List Frame) : (s.setUrgent x).lines = s.lines := rfl

@[simp] theorem State.setRoutes_pending (s : State) (x : Vector (Option RouteEntry) 128) : (s.setRoutes x).pending = s.pending := rfl
@[simp] theorem State.setRoutes_now (s : State) (x : Vector (Option RouteEntry) 128) : (s.setRoutes x).now = s.now := rfl
@[simp] theorem State.setRoutes_readerPref (s : State) (x : Vector (Option RouteEntry) 128) : (s.setRoutes x).readerPref = s.readerPref := rfl
@[simp] theorem State.setRoutes_mode (s : State) (x : Vector (Option RouteEntry) 128) : (s.setRoutes x).mode = s.mode := rfl
@[simp] theorem State.setRoutes_params (s : State) (x : Vector (Option RouteEntry) 128) : (s.setRoutes x).params = s.params := rfl
@[simp] theorem State.setRoutes_sgm (s : State) (x : Vector (Option RouteEntry) 128) : (s.setRoutes x).sgm = s.sgm := rfl
@[simp] theorem State.setRoutes_rse (s : State) (x : Vector (Option RouteEntry) 128) : (s.setRoutes x).rse = s.rse := rfl
@[simp] theorem State.setRoutes_bdu (s : State) (x : Vector (Option RouteEntry) 128) : (s.setRoutes x).bdu = s.bdu := rfl
@[simp] theorem State.setRoutes_rhc (s : State) (x : Vector (Option RouteEntry) 128) : (s.setRoutes x).rhc = s.rhc := rfl
@[simp] theorem State.setRoutes_dic (s : State) (x : Vector (Option RouteEntry) 128) : (s.setRoutes x).dic = s.dic := rfl
@[simp] theorem State.setRoutes_cft (s : State) (x : Vector (Option RouteEntry) 128) : (s.setRoutes x).cft = s.cft := rfl
@[simp] theorem State.setRoutes_tic (s : State) (x : Vector (Option RouteEntry) 128) : (s.setRoutes x).tic = s.tic := rfl
@[simp] theorem State.setRoutes_ports (s : State) (x : Vector (Option RouteEntry) 128) : (s.setRoutes x).ports = s.ports := rfl
@[simp] theorem State.setRoutes_urgent (s : State) (x : Vector (Option RouteEntry) 128) : (s.setRoutes x).urgent = s.urgent := rfl
@[simp] theorem State.setRoutes_routes (s : State) (x : Vector (Option RouteEntry) 128) : (s.setRoutes x).routes = x := rfl
@[simp] theorem State.setRoutes_txs (s : State) (x : Vector (Option RouteEntry) 128) : (s.setRoutes x).txs = s.txs := rfl
@[simp] theorem State.setRoutes_svr (s : State) (x : Vector (Option RouteEntry) 128) : (s.setRoutes x).svr = s.svr := rfl
@[simp] theorem State.setRoutes_ctr (s : State) (x : Vector (Option RouteEntry) 128) : (s.setRoutes x).ctr = s.ctr := rfl
@[simp] theorem State.setRoutes_lines (s : State) (x : Vector (Option RouteEntry) 128) : (s.setRoutes x).lines = s.lines := rfl

@[simp] theorem State.setTxs_pending (s : State) (x : Txs) : (s.setTxs x).pending = s.pending := rfl
@[simp] theorem State.setTxs_now (s : State) (x : Txs) : (s.setTxs x).now = s.now := rfl
@[simp] theorem State.setTxs_readerPref (s : State) (x : Txs) : (s.setTxs x).readerPref = s.readerPref := rfl
@[simp] theorem State.setTxs_mode (s : State) (x : Txs) : (s.setTxs x).mode = s.mode := rfl
@[simp] theorem State.setTxs_params (s : State) (x : Txs) : (s.setTxs x).params = s.params := rfl
@[simp] theorem State.setTxs_sgm (s : State) (x : Txs) : (s.setTxs x).sgm = s.sgm := rfl
@[simp] theorem State.setTxs_rse (s : State) (x : Txs) : (s.setTxs x).rse = s.rse := rfl
@[simp] theorem State.setTxs_bdu (s : State) (x : Txs) : (s.setTxs x).bdu = s.bdu := rfl
@[simp] theorem State.setTxs_rhc (s : State) (x : Txs) : (s.setTxs x).rhc = s.rhc := rfl
@[simp] theorem State.setTxs_dic (s : State) (x : Txs) : (s.setTxs x).dic = s.dic := rfl
@[simp] theorem State.setTxs_cft (s : State) (x : Txs) : (s.setTxs x).cft = s.cft := rfl
@[simp] theorem State.setTxs_tic (s : State) (x : Txs) : (s.setTxs x).tic = s.tic := rfl
@[simp] theorem State.setTxs_ports (s : State) (x : Txs) : (s.setTxs x).ports = s.ports := rfl
@[simp] theorem State.setTxs_urgent (s : State) (x : Txs) : (s.setTxs x).urgent = s.urgent := rfl
@[simp] theorem State.setTxs_routes (s : State) (x : Txs) : (s.setTxs x).routes = s.routes := rfl
@[simp] theorem State.setTxs_txs (s : State) (x : Txs) : (s.setTxs x).txs = x := rfl
@[simp] theorem State.setTxs_svr (s : State) (x : Txs) : (s.setTxs x).svr = s.svr := rfl
@[simp] theorem State.setTxs_ctr (s : State) (x : Txs) : (s.setTxs x).ctr = s.ctr := rfl
@[simp] theorem State.setTxs_lines (s : State) (x : Txs) : (s.setTxs x).lines = s.lines := rfl

@[simp] theorem State.setSvr_pending (s : State) (x : Svr) : (s.setSvr x).pending = s.pending := rfl
@[simp] theorem State.setSvr_now (s : State) (x : Svr) : (s.setSvr x).now = s.now := rfl
@[simp] theorem State.setSvr_readerPref (s : State) (x : Svr) : (s.setSvr x).readerPref = s.readerPref := rfl
@[simp] theorem State.setSvr_mode (s : State) (x : Svr) : (s.setSvr x).mode = s.mode := rfl
@[simp] theorem State.setSvr_params (s : State) (x : Svr) : (s.setSvr x).params = s.params := rfl
@[simp] theorem State.setSvr_sgm (s : State) (x : Svr) : (s.setSvr x).sgm = s.sgm := rfl
@[simp] theorem State.setSvr_rse (s : State) (x : Svr) : (s.setSvr x).rse = s.rse := rfl
@[simp] theorem State.setSvr_bdu (s : State) (x : Svr) : (s.setSvr x).bdu = s.bdu := rfl
@[simp] theorem State.setSvr_rhc (s : State) (x : Svr) : (s.setSvr x).rhc = s.rhc := rfl
@[simp] theorem State.setSvr_dic (s : State) (x : Svr) : (s.setSvr x).dic = s.dic := rfl
@[simp] theorem State.setSvr_cft (s : State) (x : Svr) : (s.setSvr x).cft = s.cft := rfl
@[simp] theorem State.setSvr_tic (s : State) (x : Svr) : (s.setSvr x).tic = s.tic := rfl
@[simp] theorem State.setSvr_ports (s : State) (x : Svr) : (s.setSvr x).ports = s.ports := rfl
@[simp] theorem State.setSvr_urgent (s : State) (x : Svr) : (s.setSvr x).urgent = s.urgent := rfl
@[simp] theorem State.setSvr_routes (s : State) (x : Svr) : (s.setSvr x).routes = s.routes := rfl
@[simp] theorem State.setSvr_txs (s : State) (x : Svr) : (s.setSvr x).txs = s.txs := rfl
@[simp] theorem State.setSvr_svr (s : State) (x : Svr) : (s.setSvr x).svr = x := rfl
@[simp] theorem State.setSvr_ctr (s : State) (x : Svr) : (s.setSvr x).ctr = s.ctr := rfl
@[simp] theorem State.setSvr_lines (s : State) (x : Svr) : (s.setSvr x).lines = s.lines := rfl

@[simp] theorem State.setCtr_pending (s : State) (x : Counters) : (s.setCtr x).pending = s.pending := rfl
@[simp] theorem State.setCtr_now (s : State) (x : Counters) : (s.setCtr x).now = s.now := rfl
@[simp] theorem State.setCtr_readerPref (s : State) (x : Counters) : (s.setCtr x).readerPref = s.readerPref := rfl
@[simp] theorem State.setCtr_mode (s : State) (x : Counters) : (s.setCtr x).mode = s.mode := rfl
@[simp] theorem State.setCtr_params (s : State) (x : Counters) : (s.setCtr x).params = s.params := rfl
@[simp] theorem State.setCtr_sgm (s : State) (x : Counters) : (s.setCtr x).sgm = s.sgm := rfl
@[simp] theorem State.setCtr_rse (s : State) (x : Counters) : (s.setCtr x).rse = s.rse := rfl
@[simp] theorem State.setCtr_bdu (s : State) (x : Counters) : (s.setCtr x).bdu = s.bdu := rfl
@[simp] theorem State.setCtr_rhc (s : State) (x : Counters) : (s.setCtr x).rhc = s.rhc := rfl
@[simp] theorem State.setCtr_dic (s : State) (x : Counters) : (s.setCtr x).dic = s.dic := rfl
@[simp] theorem State.setCtr_cft (s : State) (x : Counters) : (s.setCtr x).cft = s.cft := rfl
@[simp] theorem State.setCtr_tic (s : State) (x : Counters) : (s.setCtr x).tic = s.tic := rfl
@[simp] theorem State.setCtr_ports (s : State) (x : Counters) : (s.setCtr x).ports = s.ports := rfl
@[simp] theorem State.setCtr_urgent (s : State) (x : Counters) : (s.setCtr x).urgent = s.urgent := rfl
@[simp] theorem State.setCtr_routes (s : State) (x : Counters) : (s.setCtr x).routes = s.routes := rfl
@[simp] theorem State.setCtr_txs (s : State) (x : Counters) : (s.setCtr x).txs = s.txs := rfl
@[simp] theorem State.setCtr_svr (s : State) (x : Counters) : (s.setCtr x).svr = s.svr := rfl
@[simp] theorem State.setCtr_ctr (s : State) (x : Counters) : (s.setCtr x).ctr = x := rfl
@[simp] theorem State.setCtr_lines (s : State) (x : Counters) : (s.setCtr x).lines = s.lines := rfl

@[simp] theorem State.setLines_pending (s : State) (x : Lines) : (s.setLines x).pending = s.pending := rfl
@[simp] theorem State.setLines_now (s : State) (x : Lines) : (s.setLines x).now = s.now := rfl
@[simp] theorem State.setLines_readerPref (s : State) (x : Lines) : (s.setLines x).readerPref = s.readerPref := rfl
@[simp] theorem State.setLines_mode (s : State) (x : Lines) : (s.setLines x).mode = s.mode := rfl
@[simp] theorem State.setLines_params (s : State) (x : Lines) : (s.setLines x).params = s.params := rfl
@[simp] theorem State.setLines_sgm (s : State) (x : Lines) : (s.setLines x).sgm = s.sgm := rfl
@[simp] theorem State.setLines_rse (s : State) (x : Lines) : (s.setLines x).rse = s.rse := rfl
@[simp] theorem State.setLines_bdu (s : State) (x : Lines) : (s.setLines x).bdu = s.bdu := rfl
@[simp] theorem State.setLines_rhc (s : State) (x : Lines) : (s.setLines x).rhc = s.rhc := rfl
@[simp] theorem State.setLines_dic (s : State) (x : Lines) : (s.setLines x).dic = s.dic := rfl
@[simp] theorem State.setLines_cft (s : State) (x : Lines) : (s.setLines x).cft = s.cft := rfl
@[simp] theorem State.setLines_tic (s : State) (x : Lines) : (s.setLines x).tic = s.tic := rfl
@[simp] theorem State.setLines_ports (s : State) (x : Lines) : (s.setLines x).ports = s.ports := rfl
@[simp] theorem State.setLines_urgent (s : State) (x : Lines) : (s.setLines x).urgent = s.urgent := rfl
@[simp] theorem State.setLines_routes (s : State) (x : Lines) : (s.setLines x).routes = s.routes := rfl
@[simp] theorem State.setLines_txs (s : State) (x : Lines) : (s.setLines x).txs = s.txs := rfl
@[simp] theorem State.setLines_svr (s : State) (x : Lines) : (s.setLines x).svr = s.svr := rfl
@[simp] theorem State.setLines_ctr (s : State) (x : Lines) : (s.setLines x).ctr = s.ctr := rfl
@[simp] theorem State.setLines_lines (s : State) (x : Lines) : (s.setLines x).lines = x := rfl

@[simp] theorem State.setParams_pending (s : State) (x : Params) : (s.setParams x).pending = s.pending := rfl
@[simp] theorem State.setParams_now (s : State) (x : Params) : (s.setParams x).now = s.now := rfl
@[simp] theorem State.setParams_readerPref (s : State) (x : Params) : (s.setParams x).readerPref = s.readerPref := rfl
@[simp] theorem State.setParams_mode (s : State) (x : Params) : (s.setParams x).mode = s.mode := rfl
@[simp] theorem State.setParams_params (s : State) (x : Params) : (s.setParams x).params = x := rfl
@[simp] theorem State.setParams_sgm (s : State) (x : Params) : (s.setParams x).sgm = s.sgm := rfl
@[simp] theorem State.setParams_rse (s : State) (x : Params) : (s.setParams x).rse = s.rse := rfl
@[simp] theorem State.setParams_bdu (s : State) (x : Params) : (s.setParams x).bdu = s.bdu := rfl
@[simp] theorem State.setParams_rhc (s : State) (x : Params) : (s.setParams x).rhc = s.rhc := rfl
@[simp] theorem State.setParams_dic (s : State) (x : Params) : (s.setParams x).dic = s.dic := rfl
@[simp] theorem State.setParams_cft (s : State) (x : Params) : (s.setParams x).cft = s.cft := rfl
@[simp] theorem State.setParams_tic (s : State) (x : Params) : (s.setParams x).tic = s.tic := rfl
@[simp] theorem State.setParams_ports (s : State) (x : Params) : (s.setParams x).ports = s.ports := rfl
@[simp] theorem State.setParams_urgent (s : State) (x : Params) : (s.setParams x).urgent = s.urgent := rfl
@[simp] theorem State.setParams_routes (s : State) (x : Params) : (s.setParams x).routes = s.routes := rfl
@[simp] theorem State.setParams_txs (s : State) (x : Params) : (s.setParams x).txs = s.txs := rfl
@[simp] theorem State.setParams_svr (s : State) (x : Params) : (s.setParams x).svr = s.svr := rfl
@[simp] theorem State.setParams_ctr (s : State) (x : Params) : (s.setParams x).ctr = s.ctr := rfl
@[simp] theorem State.setParams_lines (s : State) (x : Params) : (s.setParams x).lines = s.lines := rfl

@[simp] theorem State.setMode_pending (s : State) (x : Mode) : (s.setMode x).pending = s.pending := rfl
@[simp] theorem State.setMode_now (s : State) (x : Mode) : (s.setMode x).now = s.now := rfl
@[simp] theorem State.setMode_readerPref (s : State) (x : Mode) : (s.setMode x).readerPref = s.readerPref := rfl
@[simp] theorem State.setMode_mode (s : State) (x : Mode) : (s.setMode x).mode = x := rfl
@[simp] theorem State.setMode_params (s : State) (x : Mode) : (s.setMode x).params = s.params := rfl
@[simp] theorem State.setMode_sgm (s : State) (x : Mode) : (s.setMode x).sgm = s.sgm := rfl
@[simp] theorem State.setMode_rse (s : State) (x : Mode) : (s.setMode x).rse = s.rse := rfl
@[simp] theorem State.setMode_bdu (s : State) (x : Mode) : (s.setMode x).bdu = s.bdu := rfl
@[simp] theorem State.setMode_rhc (s : State) (x : Mode) : (s.setMode x).rhc = s.rhc := rfl
@[simp] theorem State.setMode_dic (s : State) (x : Mode) : (s.setMode x).dic = s.dic := rfl
@[simp] theorem State.setMode_cft (s : State) (x : Mode) : (s.setMode x).cft = s.cft := rfl
@[simp] theorem State.setMode_tic (s : State) (x : Mode) : (s.setMode x).tic = s.tic := rfl
@[simp] theorem State.setMode_ports (s : State) (x : Mode) : (s.setMode x).ports = s.ports := rfl
@[simp] theorem State.setMode_urgent (s : State) (x : Mode) : (s.setMode x).urgent = s.urgent := rfl
@[simp] theorem State.setMode_routes (s : State) (x : Mode) : (s.setMode x).routes = s.routes := rfl
@[simp] theorem State.setMode_txs (s : State) (x : Mode) : (s.setMode x).txs = s.txs := rfl
@[simp] theorem State.setMode_svr (s : State) (x : Mode) : (s.setMode x).svr = s.svr := rfl
@[simp] theorem State.setMode_ctr (s : State) (x : Mode) : (s.setMode x).ctr = s.ctr := rfl
@[simp] theorem State.setMode_lines (s : State) (x : Mode) : (s.setMode x).lines = s.lines := rfl

@[simp] theorem State.setNow_pending (s : State) (x : Nat) : (s.setNow x).pending = s.pending := rfl
@[simp] theorem State.setNow_now (s : State) (x : Nat) : (s.setNow x).now = x := rfl
@[simp] theorem State.setNow_readerPref (s : State) (x : Nat) : (s.setNow x).readerPref = s.readerPref := rfl
@[simp] theorem State.setNow_mode (s : State) (x : Nat) : (s.setNow x).mode = s.mode := rfl
@[simp] theorem State.setNow_params (s : State) (x : Nat) : (s.setNow x).params = s.params := rfl
@[simp] theorem State.setNow_sgm (s : State) (x : Nat) : (s.setNow x).sgm = s.sgm := rfl
@[simp] theorem State.setNow_rse (s : State) (x : Nat) : (s.setNow x).rse = s.rse := rfl
@[simp] theorem State.setNow_bdu (s : State) (x : Nat) : (s.setNow x).bdu = s.bdu := rfl
@[simp] theorem State.setNow_rhc (s : State) (x : Nat) : (s.setNow x).rhc = s.rhc := rfl
@[simp] theorem State.setNow_dic (s : State) (x : Nat) : (s.setNow x).dic = s.dic := rfl
@[simp] theorem State.setNow_cft (s : State) (x : Nat) : (s.setNow x).cft = s.cft := rfl
@[simp] theorem State.setNow_tic (s : State) (x : Nat) : (s.setNow x).tic = s.tic := rfl
@[simp] theorem State.setNow_ports (s : State) (x : Nat) : (s.setNow x).ports = s.ports := rfl
@[simp] theorem State.setNow_urgent (s : State) (x : Nat) : (s.setNow x).urgent = s.urgent := rfl
@[simp] theorem State.setNow_routes (s : State) (x : Nat) : (s.setNow x).routes = s.routes := rfl
@[simp] theorem State.setNow_txs (s : State) (x : Nat) : (s.setNow x).txs = s.txs := rfl
@[simp] theorem State.setNow_svr (s : State) (x : Nat) : (s.setNow x).svr = s.svr := rfl
@[simp] theorem State.setNow_ctr (s : State) (x : Nat) : (s.setNow x).ctr = s.ctr := rfl
@[simp] theorem State.setNow_lines (s : State) (x : Nat) : (s.setNow x).lines = s.lines := rfl

@[simp] theorem State.setPending_pending (s : State) (x : List Instr) : (s.setPending x).pending = x := rfl
@[simp] theorem State.setPending_now (s : State) (x : List Instr) : (s.setPending x).now = s.now := rfl
@[simp] theorem State.setPending_readerPref (s : State) (x : List Instr) : (s.setPending x).readerPref = s.readerPref := rfl
@[simp] theorem State.setPending_mode (s : State) (x : List Instr) : (s.setPending x).mode = s.mode := rfl
@[simp] theorem State.setPending_params (s : State) (x : List Instr) : (s.setPending x).params = s.params := rfl
@[simp] theorem State.setPending_sgm (s : State) (x : List Instr) : (s.setPending x).sgm = s.sgm := rfl
@[simp] theorem State.setPending_rse (s : State) (x : List Instr) : (s.setPending x).rse = s.rse := rfl
@[simp] theorem State.setPending_bdu (s : State) (x : List Instr) : (s.setPending x).bdu = s.bdu := rfl
@[simp] theorem State.setPending_rhc (s : State) (x : List Instr) : (s.setPending x).rhc = s.rhc := rfl
@[simp] theorem State.setPending_dic (s : State) (x : List Instr) : (s.setPending x).dic = s.dic := rfl
@[simp] theorem State.setPending_cft (s : State) (x : List Instr) : (s.setPending x).cft = s.cft := rfl
@[simp] theorem State.setPending_tic (s : State) (x : List Instr) : (s.setPending x).tic = s.tic := rfl
@[simp] theorem State.setPending_ports (s : State) (x : List Instr) : (s.setPending x).ports = s.ports := rfl
@[simp] theorem State.setPending_urgent (s : State) (x : List Instr) : (s.setPending x).urgent = s.urgent := rfl
@[simp] theorem State.setPending_routes (s : State) (x : List Instr) : (s.setPending x).routes = s.routes := rfl
@[simp] theorem State.setPending_txs (s : State) (x : List Instr) : (s.setPending x).txs = s.txs := rfl
@[simp] theorem State.setPending_svr (s : State) (x : List Instr) : (s.setPending x).svr = s.svr := rfl
@[simp] theorem State.setPending_ctr (s : State) (x : List Instr) : (s.setPending x).ctr = s.ctr := rfl
@[simp] theorem State.setPending_lines (s : State) (x : List Instr) : (s.setPending x).lines = s.lines := rfl

@[simp] theorem State.setPort_pending (s : State) (p : PortId) (x : Port) : (s.setPort p x).pending = s.pending := rfl
@[simp] theorem State.setPort_now (s : State) (p : PortId) (x : Port) : (s.setPort p x).now = s.now := rfl
@[simp] theorem State.setPort_readerPref (s : State) (p : PortId) (x : Port) : (s.setPort p x).readerPref = s.readerPref := rfl
@[simp] theorem State.setPort_mode (s : State) (p : PortId) (x : Port) : (s.setPort p x).mode = s.mode := rfl
@[simp] theorem State.setPort_params (s : State) (p : PortId) (x : Port) : (s.setPort p x).params = s.params := rfl
@[simp] theorem State.setPort_sgm (s : State) (p : PortId) (x : Port) : (s.setPort p x).sgm = s.sgm := rfl
@[simp] theorem State.setPort_rse (s : State) (p : PortId) (x : Port) : (s.setPort p x).rse = s.rse := rfl
@[simp] theorem State.setPort_bdu (s : State) (p : PortId) (x : Port) : (s.setPort p x).bdu = s.bdu := rfl
@[simp] theorem State.setPort_rhc (s : State) (p : PortId) (x : Port) : (s.setPort p x).rhc = s.rhc := rfl
@[simp] theorem State.setPort_dic (s : State) (p : PortId) (x : Port) : (s.setPort p x).dic = s.dic := rfl
@[simp] theorem State.setPort_cft (s : State) (p : PortId) (x : Port) : (s.setPort p x).cft = s.cft := rfl
@[simp] theorem State.setPort_tic (s : State) (p : PortId) (x : Port) : (s.setPort p x).tic = s.tic := rfl
@[simp] theorem State.setPort_ports (s : State) (p : PortId) (x : Port) : (s.setPort p x).ports = s.ports.set p x := rfl
@[simp] theorem State.setPort_urgent (s : State) (p : PortId) (x : Port) : (s.setPort p x).urgent = s.urgent := rfl
@[simp] theorem State.setPort_routes (s : State) (p : PortId) (x : Port) : (s.setPort p x).routes = s.routes := rfl
@[simp] theorem State.setPort_txs (s : State) (p : PortId) (x : Port) : (s.setPort p x).txs = s.txs := rfl
@[simp] theorem State.setPort_svr (s : State) (p : PortId) (x : Port) : (s.setPort p x).svr = s.svr := rfl
@[simp] theorem State.setPort_ctr (s : State) (p : PortId) (x : Port) : (s.setPort p x).ctr = s.ctr := rfl
@[simp] theorem State.setPort_lines (s : State) (p : PortId) (x : Port) : (s.setPort p x).lines = s.lines := rfl

@[simp] theorem State.putDoor_pending (s : State) (d : Door) (r : DoorRec) : (s.putDoor d r).pending = s.pending := rfl
@[simp] theorem State.putDoor_now (s : State) (d : Door) (r : DoorRec) : (s.putDoor d r).now = s.now := rfl
@[simp] theorem State.putDoor_readerPref (s : State) (d : Door) (r : DoorRec) : (s.putDoor d r).readerPref = s.readerPref := rfl
@[simp] theorem State.putDoor_mode (s : State) (d : Door) (r : DoorRec) : (s.putDoor d r).mode = s.mode := rfl
@[simp] theorem State.putDoor_params (s : State) (d : Door) (r : DoorRec) : (s.putDoor d r).params = s.params := rfl
@[simp] theorem State.putDoor_sgm (s : State) (d : Door) (r : DoorRec) : (s.putDoor d r).sgm = s.sgm := rfl
@[simp] theorem State.putDoor_rse (s : State) (d : Door) (r : DoorRec) : (s.putDoor d r).rse = s.rse := rfl
@[simp] theorem State.putDoor_bdu (s : State) (d : Door) (r : DoorRec) : (s.putDoor d r).bdu = s.bdu := rfl
@[simp] theorem State.putDoor_rhc (s : State) (d : Door) (r : DoorRec) : (s.putDoor d r).rhc = s.rhc := rfl
@[simp] theorem State.putDoor_dic (s : State) (d : Door) (r : DoorRec) : (s.putDoor d r).dic = { s.dic with doors := s.dic.doors.set d r } := rfl
@[simp] theorem State.putDoor_cft (s : State) (d : Door) (r : DoorRec) : (s.putDoor d r).cft = s.cft := rfl
@[simp] theorem State.putDoor_tic (s : State) (d : Door) (r : DoorRec) : (s.putDoor d r).tic = s.tic := rfl
@[simp] theorem State.putDoor_ports (s : State) (d : Door) (r : DoorRec) : (s.putDoor d r).ports = s.ports := rfl
@[simp] theorem State.putDoor_urgent (s : State) (d : Door) (r : DoorRec) : (s.putDoor d r).urgent = s.urgent := rfl
@[simp] theorem State.putDoor_routes (s : State) (d : Door) (r : DoorRec) : (s.putDoor d r).routes = s.routes := rfl
@[simp] theorem State.putDoor_txs (s : State) (d : Door) (r : DoorRec) : (s.putDoor d r).txs = s.txs := rfl
@[simp] theorem State.putDoor_svr (s : State) (d : Door) (r : DoorRec) : (s.putDoor d r).svr = s.svr := rfl
@[simp] theorem State.putDoor_ctr (s : State) (d : Door) (r : DoorRec) : (s.putDoor d r).ctr = s.ctr := rfl
@[simp] theorem State.putDoor_lines (s : State) (d : Door) (r : DoorRec) : (s.putDoor d r).lines = s.lines := rfl

@[simp] theorem State.putCorner_pending (s : State) (k : Corner) (r : CornerRec) : (s.putCorner k r).pending = s.pending := rfl
@[simp] theorem State.putCorner_now (s : State) (k : Corner) (r : CornerRec) : (s.putCorner k r).now = s.now := rfl
@[simp] theorem State.putCorner_readerPref (s : State) (k : Corner) (r : CornerRec) : (s.putCorner k r).readerPref = s.readerPref := rfl
@[simp] theorem State.putCorner_mode (s : State) (k : Corner) (r : CornerRec) : (s.putCorner k r).mode = s.mode := rfl
@[simp] theorem State.putCorner_params (s : State) (k : Corner) (r : CornerRec) : (s.putCorner k r).params = s.params := rfl
@[simp] theorem State.putCorner_sgm (s : State) (k : Corner) (r : CornerRec) : (s.putCorner k r).sgm = s.sgm := rfl
@[simp] theorem State.putCorner_rse (s : State) (k : Corner) (r : CornerRec) : (s.putCorner k r).rse = s.rse := rfl
@[simp] theorem State.putCorner_bdu (s : State) (k : Corner) (r : CornerRec) : (s.putCorner k r).bdu = s.bdu := rfl
@[simp] theorem State.putCorner_rhc (s : State) (k : Corner) (r : CornerRec) : (s.putCorner k r).rhc = { s.rhc with corners := s.rhc.corners.set k r } := rfl
@[simp] theorem State.putCorner_dic (s : State) (k : Corner) (r : CornerRec) : (s.putCorner k r).dic = s.dic := rfl
@[simp] theorem State.putCorner_cft (s : State) (k : Corner) (r : CornerRec) : (s.putCorner k r).cft = s.cft := rfl
@[simp] theorem State.putCorner_tic (s : State) (k : Corner) (r : CornerRec) : (s.putCorner k r).tic = s.tic := rfl
@[simp] theorem State.putCorner_ports (s : State) (k : Corner) (r : CornerRec) : (s.putCorner k r).ports = s.ports := rfl
@[simp] theorem State.putCorner_urgent (s : State) (k : Corner) (r : CornerRec) : (s.putCorner k r).urgent = s.urgent := rfl
@[simp] theorem State.putCorner_routes (s : State) (k : Corner) (r : CornerRec) : (s.putCorner k r).routes = s.routes := rfl
@[simp] theorem State.putCorner_txs (s : State) (k : Corner) (r : CornerRec) : (s.putCorner k r).txs = s.txs := rfl
@[simp] theorem State.putCorner_svr (s : State) (k : Corner) (r : CornerRec) : (s.putCorner k r).svr = s.svr := rfl
@[simp] theorem State.putCorner_ctr (s : State) (k : Corner) (r : CornerRec) : (s.putCorner k r).ctr = s.ctr := rfl
@[simp] theorem State.putCorner_lines (s : State) (k : Corner) (r : CornerRec) : (s.putCorner k r).lines = s.lines := rfl

/-! ### Counters changed: nothing but `ctr` moves -/

@[simp] theorem State.countSgm_pending (s : State) (f : SgmCtr → SgmCtr) : (s.countSgm f).pending = s.pending := rfl
@[simp] theorem State.countSgm_now (s : State) (f : SgmCtr → SgmCtr) : (s.countSgm f).now = s.now := rfl
@[simp] theorem State.countSgm_readerPref (s : State) (f : SgmCtr → SgmCtr) : (s.countSgm f).readerPref = s.readerPref := rfl
@[simp] theorem State.countSgm_mode (s : State) (f : SgmCtr → SgmCtr) : (s.countSgm f).mode = s.mode := rfl
@[simp] theorem State.countSgm_params (s : State) (f : SgmCtr → SgmCtr) : (s.countSgm f).params = s.params := rfl
@[simp] theorem State.countSgm_sgm (s : State) (f : SgmCtr → SgmCtr) : (s.countSgm f).sgm = s.sgm := rfl
@[simp] theorem State.countSgm_rse (s : State) (f : SgmCtr → SgmCtr) : (s.countSgm f).rse = s.rse := rfl
@[simp] theorem State.countSgm_bdu (s : State) (f : SgmCtr → SgmCtr) : (s.countSgm f).bdu = s.bdu := rfl
@[simp] theorem State.countSgm_rhc (s : State) (f : SgmCtr → SgmCtr) : (s.countSgm f).rhc = s.rhc := rfl
@[simp] theorem State.countSgm_dic (s : State) (f : SgmCtr → SgmCtr) : (s.countSgm f).dic = s.dic := rfl
@[simp] theorem State.countSgm_cft (s : State) (f : SgmCtr → SgmCtr) : (s.countSgm f).cft = s.cft := rfl
@[simp] theorem State.countSgm_tic (s : State) (f : SgmCtr → SgmCtr) : (s.countSgm f).tic = s.tic := rfl
@[simp] theorem State.countSgm_ports (s : State) (f : SgmCtr → SgmCtr) : (s.countSgm f).ports = s.ports := rfl
@[simp] theorem State.countSgm_urgent (s : State) (f : SgmCtr → SgmCtr) : (s.countSgm f).urgent = s.urgent := rfl
@[simp] theorem State.countSgm_routes (s : State) (f : SgmCtr → SgmCtr) : (s.countSgm f).routes = s.routes := rfl
@[simp] theorem State.countSgm_txs (s : State) (f : SgmCtr → SgmCtr) : (s.countSgm f).txs = s.txs := rfl
@[simp] theorem State.countSgm_svr (s : State) (f : SgmCtr → SgmCtr) : (s.countSgm f).svr = s.svr := rfl
@[simp] theorem State.countSgm_ctr (s : State) (f : SgmCtr → SgmCtr) : (s.countSgm f).ctr = { s.ctr with sgm := f s.ctr.sgm } := rfl
@[simp] theorem State.countSgm_lines (s : State) (f : SgmCtr → SgmCtr) : (s.countSgm f).lines = s.lines := rfl

@[simp] theorem State.countRse_pending (s : State) (f : RseCtr → RseCtr) : (s.countRse f).pending = s.pending := rfl
@[simp] theorem State.countRse_now (s : State) (f : RseCtr → RseCtr) : (s.countRse f).now = s.now := rfl
@[simp] theorem State.countRse_readerPref (s : State) (f : RseCtr → RseCtr) : (s.countRse f).readerPref = s.readerPref := rfl
@[simp] theorem State.countRse_mode (s : State) (f : RseCtr → RseCtr) : (s.countRse f).mode = s.mode := rfl
@[simp] theorem State.countRse_params (s : State) (f : RseCtr → RseCtr) : (s.countRse f).params = s.params := rfl
@[simp] theorem State.countRse_sgm (s : State) (f : RseCtr → RseCtr) : (s.countRse f).sgm = s.sgm := rfl
@[simp] theorem State.countRse_rse (s : State) (f : RseCtr → RseCtr) : (s.countRse f).rse = s.rse := rfl
@[simp] theorem State.countRse_bdu (s : State) (f : RseCtr → RseCtr) : (s.countRse f).bdu = s.bdu := rfl
@[simp] theorem State.countRse_rhc (s : State) (f : RseCtr → RseCtr) : (s.countRse f).rhc = s.rhc := rfl
@[simp] theorem State.countRse_dic (s : State) (f : RseCtr → RseCtr) : (s.countRse f).dic = s.dic := rfl
@[simp] theorem State.countRse_cft (s : State) (f : RseCtr → RseCtr) : (s.countRse f).cft = s.cft := rfl
@[simp] theorem State.countRse_tic (s : State) (f : RseCtr → RseCtr) : (s.countRse f).tic = s.tic := rfl
@[simp] theorem State.countRse_ports (s : State) (f : RseCtr → RseCtr) : (s.countRse f).ports = s.ports := rfl
@[simp] theorem State.countRse_urgent (s : State) (f : RseCtr → RseCtr) : (s.countRse f).urgent = s.urgent := rfl
@[simp] theorem State.countRse_routes (s : State) (f : RseCtr → RseCtr) : (s.countRse f).routes = s.routes := rfl
@[simp] theorem State.countRse_txs (s : State) (f : RseCtr → RseCtr) : (s.countRse f).txs = s.txs := rfl
@[simp] theorem State.countRse_svr (s : State) (f : RseCtr → RseCtr) : (s.countRse f).svr = s.svr := rfl
@[simp] theorem State.countRse_ctr (s : State) (f : RseCtr → RseCtr) : (s.countRse f).ctr = { s.ctr with rse := f s.ctr.rse } := rfl
@[simp] theorem State.countRse_lines (s : State) (f : RseCtr → RseCtr) : (s.countRse f).lines = s.lines := rfl

@[simp] theorem State.countBdu_pending (s : State) (f : BduCtr → BduCtr) : (s.countBdu f).pending = s.pending := rfl
@[simp] theorem State.countBdu_now (s : State) (f : BduCtr → BduCtr) : (s.countBdu f).now = s.now := rfl
@[simp] theorem State.countBdu_readerPref (s : State) (f : BduCtr → BduCtr) : (s.countBdu f).readerPref = s.readerPref := rfl
@[simp] theorem State.countBdu_mode (s : State) (f : BduCtr → BduCtr) : (s.countBdu f).mode = s.mode := rfl
@[simp] theorem State.countBdu_params (s : State) (f : BduCtr → BduCtr) : (s.countBdu f).params = s.params := rfl
@[simp] theorem State.countBdu_sgm (s : State) (f : BduCtr → BduCtr) : (s.countBdu f).sgm = s.sgm := rfl
@[simp] theorem State.countBdu_rse (s : State) (f : BduCtr → BduCtr) : (s.countBdu f).rse = s.rse := rfl
@[simp] theorem State.countBdu_bdu (s : State) (f : BduCtr → BduCtr) : (s.countBdu f).bdu = s.bdu := rfl
@[simp] theorem State.countBdu_rhc (s : State) (f : BduCtr → BduCtr) : (s.countBdu f).rhc = s.rhc := rfl
@[simp] theorem State.countBdu_dic (s : State) (f : BduCtr → BduCtr) : (s.countBdu f).dic = s.dic := rfl
@[simp] theorem State.countBdu_cft (s : State) (f : BduCtr → BduCtr) : (s.countBdu f).cft = s.cft := rfl
@[simp] theorem State.countBdu_tic (s : State) (f : BduCtr → BduCtr) : (s.countBdu f).tic = s.tic := rfl
@[simp] theorem State.countBdu_ports (s : State) (f : BduCtr → BduCtr) : (s.countBdu f).ports = s.ports := rfl
@[simp] theorem State.countBdu_urgent (s : State) (f : BduCtr → BduCtr) : (s.countBdu f).urgent = s.urgent := rfl
@[simp] theorem State.countBdu_routes (s : State) (f : BduCtr → BduCtr) : (s.countBdu f).routes = s.routes := rfl
@[simp] theorem State.countBdu_txs (s : State) (f : BduCtr → BduCtr) : (s.countBdu f).txs = s.txs := rfl
@[simp] theorem State.countBdu_svr (s : State) (f : BduCtr → BduCtr) : (s.countBdu f).svr = s.svr := rfl
@[simp] theorem State.countBdu_ctr (s : State) (f : BduCtr → BduCtr) : (s.countBdu f).ctr = { s.ctr with bdu := f s.ctr.bdu } := rfl
@[simp] theorem State.countBdu_lines (s : State) (f : BduCtr → BduCtr) : (s.countBdu f).lines = s.lines := rfl

@[simp] theorem State.countRhc_pending (s : State) (f : RhcCtr → RhcCtr) : (s.countRhc f).pending = s.pending := rfl
@[simp] theorem State.countRhc_now (s : State) (f : RhcCtr → RhcCtr) : (s.countRhc f).now = s.now := rfl
@[simp] theorem State.countRhc_readerPref (s : State) (f : RhcCtr → RhcCtr) : (s.countRhc f).readerPref = s.readerPref := rfl
@[simp] theorem State.countRhc_mode (s : State) (f : RhcCtr → RhcCtr) : (s.countRhc f).mode = s.mode := rfl
@[simp] theorem State.countRhc_params (s : State) (f : RhcCtr → RhcCtr) : (s.countRhc f).params = s.params := rfl
@[simp] theorem State.countRhc_sgm (s : State) (f : RhcCtr → RhcCtr) : (s.countRhc f).sgm = s.sgm := rfl
@[simp] theorem State.countRhc_rse (s : State) (f : RhcCtr → RhcCtr) : (s.countRhc f).rse = s.rse := rfl
@[simp] theorem State.countRhc_bdu (s : State) (f : RhcCtr → RhcCtr) : (s.countRhc f).bdu = s.bdu := rfl
@[simp] theorem State.countRhc_rhc (s : State) (f : RhcCtr → RhcCtr) : (s.countRhc f).rhc = s.rhc := rfl
@[simp] theorem State.countRhc_dic (s : State) (f : RhcCtr → RhcCtr) : (s.countRhc f).dic = s.dic := rfl
@[simp] theorem State.countRhc_cft (s : State) (f : RhcCtr → RhcCtr) : (s.countRhc f).cft = s.cft := rfl
@[simp] theorem State.countRhc_tic (s : State) (f : RhcCtr → RhcCtr) : (s.countRhc f).tic = s.tic := rfl
@[simp] theorem State.countRhc_ports (s : State) (f : RhcCtr → RhcCtr) : (s.countRhc f).ports = s.ports := rfl
@[simp] theorem State.countRhc_urgent (s : State) (f : RhcCtr → RhcCtr) : (s.countRhc f).urgent = s.urgent := rfl
@[simp] theorem State.countRhc_routes (s : State) (f : RhcCtr → RhcCtr) : (s.countRhc f).routes = s.routes := rfl
@[simp] theorem State.countRhc_txs (s : State) (f : RhcCtr → RhcCtr) : (s.countRhc f).txs = s.txs := rfl
@[simp] theorem State.countRhc_svr (s : State) (f : RhcCtr → RhcCtr) : (s.countRhc f).svr = s.svr := rfl
@[simp] theorem State.countRhc_ctr (s : State) (f : RhcCtr → RhcCtr) : (s.countRhc f).ctr = { s.ctr with rhc := f s.ctr.rhc } := rfl
@[simp] theorem State.countRhc_lines (s : State) (f : RhcCtr → RhcCtr) : (s.countRhc f).lines = s.lines := rfl

@[simp] theorem State.countCft_pending (s : State) (f : CftCtr → CftCtr) : (s.countCft f).pending = s.pending := rfl
@[simp] theorem State.countCft_now (s : State) (f : CftCtr → CftCtr) : (s.countCft f).now = s.now := rfl
@[simp] theorem State.countCft_readerPref (s : State) (f : CftCtr → CftCtr) : (s.countCft f).readerPref = s.readerPref := rfl
@[simp] theorem State.countCft_mode (s : State) (f : CftCtr → CftCtr) : (s.countCft f).mode = s.mode := rfl
@[simp] theorem State.countCft_params (s : State) (f : CftCtr → CftCtr) : (s.countCft f).params = s.params := rfl
@[simp] theorem State.countCft_sgm (s : State) (f : CftCtr → CftCtr) : (s.countCft f).sgm = s.sgm := rfl
@[simp] theorem State.countCft_rse (s : State) (f : CftCtr → CftCtr) : (s.countCft f).rse = s.rse := rfl
@[simp] theorem State.countCft_bdu (s : State) (f : CftCtr → CftCtr) : (s.countCft f).bdu = s.bdu := rfl
@[simp] theorem State.countCft_rhc (s : State) (f : CftCtr → CftCtr) : (s.countCft f).rhc = s.rhc := rfl
@[simp] theorem State.countCft_dic (s : State) (f : CftCtr → CftCtr) : (s.countCft f).dic = s.dic := rfl
@[simp] theorem State.countCft_cft (s : State) (f : CftCtr → CftCtr) : (s.countCft f).cft = s.cft := rfl
@[simp] theorem State.countCft_tic (s : State) (f : CftCtr → CftCtr) : (s.countCft f).tic = s.tic := rfl
@[simp] theorem State.countCft_ports (s : State) (f : CftCtr → CftCtr) : (s.countCft f).ports = s.ports := rfl
@[simp] theorem State.countCft_urgent (s : State) (f : CftCtr → CftCtr) : (s.countCft f).urgent = s.urgent := rfl
@[simp] theorem State.countCft_routes (s : State) (f : CftCtr → CftCtr) : (s.countCft f).routes = s.routes := rfl
@[simp] theorem State.countCft_txs (s : State) (f : CftCtr → CftCtr) : (s.countCft f).txs = s.txs := rfl
@[simp] theorem State.countCft_svr (s : State) (f : CftCtr → CftCtr) : (s.countCft f).svr = s.svr := rfl
@[simp] theorem State.countCft_ctr (s : State) (f : CftCtr → CftCtr) : (s.countCft f).ctr = { s.ctr with cft := f s.ctr.cft } := rfl
@[simp] theorem State.countCft_lines (s : State) (f : CftCtr → CftCtr) : (s.countCft f).lines = s.lines := rfl

@[simp] theorem State.countTic_pending (s : State) (f : TicCtr → TicCtr) : (s.countTic f).pending = s.pending := rfl
@[simp] theorem State.countTic_now (s : State) (f : TicCtr → TicCtr) : (s.countTic f).now = s.now := rfl
@[simp] theorem State.countTic_readerPref (s : State) (f : TicCtr → TicCtr) : (s.countTic f).readerPref = s.readerPref := rfl
@[simp] theorem State.countTic_mode (s : State) (f : TicCtr → TicCtr) : (s.countTic f).mode = s.mode := rfl
@[simp] theorem State.countTic_params (s : State) (f : TicCtr → TicCtr) : (s.countTic f).params = s.params := rfl
@[simp] theorem State.countTic_sgm (s : State) (f : TicCtr → TicCtr) : (s.countTic f).sgm = s.sgm := rfl
@[simp] theorem State.countTic_rse (s : State) (f : TicCtr → TicCtr) : (s.countTic f).rse = s.rse := rfl
@[simp] theorem State.countTic_bdu (s : State) (f : TicCtr → TicCtr) : (s.countTic f).bdu = s.bdu := rfl
@[simp] theorem State.countTic_rhc (s : State) (f : TicCtr → TicCtr) : (s.countTic f).rhc = s.rhc := rfl
@[simp] theorem State.countTic_dic (s : State) (f : TicCtr → TicCtr) : (s.countTic f).dic = s.dic := rfl
@[simp] theorem State.countTic_cft (s : State) (f : TicCtr → TicCtr) : (s.countTic f).cft = s.cft := rfl
@[simp] theorem State.countTic_tic (s : State) (f : TicCtr → TicCtr) : (s.countTic f).tic = s.tic := rfl
@[simp] theorem State.countTic_ports (s : State) (f : TicCtr → TicCtr) : (s.countTic f).ports = s.ports := rfl
@[simp] theorem State.countTic_urgent (s : State) (f : TicCtr → TicCtr) : (s.countTic f).urgent = s.urgent := rfl
@[simp] theorem State.countTic_routes (s : State) (f : TicCtr → TicCtr) : (s.countTic f).routes = s.routes := rfl
@[simp] theorem State.countTic_txs (s : State) (f : TicCtr → TicCtr) : (s.countTic f).txs = s.txs := rfl
@[simp] theorem State.countTic_svr (s : State) (f : TicCtr → TicCtr) : (s.countTic f).svr = s.svr := rfl
@[simp] theorem State.countTic_ctr (s : State) (f : TicCtr → TicCtr) : (s.countTic f).ctr = { s.ctr with tic := f s.ctr.tic } := rfl
@[simp] theorem State.countTic_lines (s : State) (f : TicCtr → TicCtr) : (s.countTic f).lines = s.lines := rfl

@[simp] theorem State.countTxs_pending (s : State) (f : TxsCtr → TxsCtr) : (s.countTxs f).pending = s.pending := rfl
@[simp] theorem State.countTxs_now (s : State) (f : TxsCtr → TxsCtr) : (s.countTxs f).now = s.now := rfl
@[simp] theorem State.countTxs_readerPref (s : State) (f : TxsCtr → TxsCtr) : (s.countTxs f).readerPref = s.readerPref := rfl
@[simp] theorem State.countTxs_mode (s : State) (f : TxsCtr → TxsCtr) : (s.countTxs f).mode = s.mode := rfl
@[simp] theorem State.countTxs_params (s : State) (f : TxsCtr → TxsCtr) : (s.countTxs f).params = s.params := rfl
@[simp] theorem State.countTxs_sgm (s : State) (f : TxsCtr → TxsCtr) : (s.countTxs f).sgm = s.sgm := rfl
@[simp] theorem State.countTxs_rse (s : State) (f : TxsCtr → TxsCtr) : (s.countTxs f).rse = s.rse := rfl
@[simp] theorem State.countTxs_bdu (s : State) (f : TxsCtr → TxsCtr) : (s.countTxs f).bdu = s.bdu := rfl
@[simp] theorem State.countTxs_rhc (s : State) (f : TxsCtr → TxsCtr) : (s.countTxs f).rhc = s.rhc := rfl
@[simp] theorem State.countTxs_dic (s : State) (f : TxsCtr → TxsCtr) : (s.countTxs f).dic = s.dic := rfl
@[simp] theorem State.countTxs_cft (s : State) (f : TxsCtr → TxsCtr) : (s.countTxs f).cft = s.cft := rfl
@[simp] theorem State.countTxs_tic (s : State) (f : TxsCtr → TxsCtr) : (s.countTxs f).tic = s.tic := rfl
@[simp] theorem State.countTxs_ports (s : State) (f : TxsCtr → TxsCtr) : (s.countTxs f).ports = s.ports := rfl
@[simp] theorem State.countTxs_urgent (s : State) (f : TxsCtr → TxsCtr) : (s.countTxs f).urgent = s.urgent := rfl
@[simp] theorem State.countTxs_routes (s : State) (f : TxsCtr → TxsCtr) : (s.countTxs f).routes = s.routes := rfl
@[simp] theorem State.countTxs_txs (s : State) (f : TxsCtr → TxsCtr) : (s.countTxs f).txs = s.txs := rfl
@[simp] theorem State.countTxs_svr (s : State) (f : TxsCtr → TxsCtr) : (s.countTxs f).svr = s.svr := rfl
@[simp] theorem State.countTxs_ctr (s : State) (f : TxsCtr → TxsCtr) : (s.countTxs f).ctr = { s.ctr with txs := f s.ctr.txs } := rfl
@[simp] theorem State.countTxs_lines (s : State) (f : TxsCtr → TxsCtr) : (s.countTxs f).lines = s.lines := rfl

@[simp] theorem State.countSvr_pending (s : State) (f : SvrCtr → SvrCtr) : (s.countSvr f).pending = s.pending := rfl
@[simp] theorem State.countSvr_now (s : State) (f : SvrCtr → SvrCtr) : (s.countSvr f).now = s.now := rfl
@[simp] theorem State.countSvr_readerPref (s : State) (f : SvrCtr → SvrCtr) : (s.countSvr f).readerPref = s.readerPref := rfl
@[simp] theorem State.countSvr_mode (s : State) (f : SvrCtr → SvrCtr) : (s.countSvr f).mode = s.mode := rfl
@[simp] theorem State.countSvr_params (s : State) (f : SvrCtr → SvrCtr) : (s.countSvr f).params = s.params := rfl
@[simp] theorem State.countSvr_sgm (s : State) (f : SvrCtr → SvrCtr) : (s.countSvr f).sgm = s.sgm := rfl
@[simp] theorem State.countSvr_rse (s : State) (f : SvrCtr → SvrCtr) : (s.countSvr f).rse = s.rse := rfl
@[simp] theorem State.countSvr_bdu (s : State) (f : SvrCtr → SvrCtr) : (s.countSvr f).bdu = s.bdu := rfl
@[simp] theorem State.countSvr_rhc (s : State) (f : SvrCtr → SvrCtr) : (s.countSvr f).rhc = s.rhc := rfl
@[simp] theorem State.countSvr_dic (s : State) (f : SvrCtr → SvrCtr) : (s.countSvr f).dic = s.dic := rfl
@[simp] theorem State.countSvr_cft (s : State) (f : SvrCtr → SvrCtr) : (s.countSvr f).cft = s.cft := rfl
@[simp] theorem State.countSvr_tic (s : State) (f : SvrCtr → SvrCtr) : (s.countSvr f).tic = s.tic := rfl
@[simp] theorem State.countSvr_ports (s : State) (f : SvrCtr → SvrCtr) : (s.countSvr f).ports = s.ports := rfl
@[simp] theorem State.countSvr_urgent (s : State) (f : SvrCtr → SvrCtr) : (s.countSvr f).urgent = s.urgent := rfl
@[simp] theorem State.countSvr_routes (s : State) (f : SvrCtr → SvrCtr) : (s.countSvr f).routes = s.routes := rfl
@[simp] theorem State.countSvr_txs (s : State) (f : SvrCtr → SvrCtr) : (s.countSvr f).txs = s.txs := rfl
@[simp] theorem State.countSvr_svr (s : State) (f : SvrCtr → SvrCtr) : (s.countSvr f).svr = s.svr := rfl
@[simp] theorem State.countSvr_ctr (s : State) (f : SvrCtr → SvrCtr) : (s.countSvr f).ctr = { s.ctr with svr := f s.ctr.svr } := rfl
@[simp] theorem State.countSvr_lines (s : State) (f : SvrCtr → SvrCtr) : (s.countSvr f).lines = s.lines := rfl

@[simp] theorem State.countDoor_pending (s : State) (d : Door) (f : DoorCtr → DoorCtr) : (s.countDoor d f).pending = s.pending := rfl
@[simp] theorem State.countDoor_now (s : State) (d : Door) (f : DoorCtr → DoorCtr) : (s.countDoor d f).now = s.now := rfl
@[simp] theorem State.countDoor_readerPref (s : State) (d : Door) (f : DoorCtr → DoorCtr) : (s.countDoor d f).readerPref = s.readerPref := rfl
@[simp] theorem State.countDoor_mode (s : State) (d : Door) (f : DoorCtr → DoorCtr) : (s.countDoor d f).mode = s.mode := rfl
@[simp] theorem State.countDoor_params (s : State) (d : Door) (f : DoorCtr → DoorCtr) : (s.countDoor d f).params = s.params := rfl
@[simp] theorem State.countDoor_sgm (s : State) (d : Door) (f : DoorCtr → DoorCtr) : (s.countDoor d f).sgm = s.sgm := rfl
@[simp] theorem State.countDoor_rse (s : State) (d : Door) (f : DoorCtr → DoorCtr) : (s.countDoor d f).rse = s.rse := rfl
@[simp] theorem State.countDoor_bdu (s : State) (d : Door) (f : DoorCtr → DoorCtr) : (s.countDoor d f).bdu = s.bdu := rfl
@[simp] theorem State.countDoor_rhc (s : State) (d : Door) (f : DoorCtr → DoorCtr) : (s.countDoor d f).rhc = s.rhc := rfl
@[simp] theorem State.countDoor_dic (s : State) (d : Door) (f : DoorCtr → DoorCtr) : (s.countDoor d f).dic = s.dic := rfl
@[simp] theorem State.countDoor_cft (s : State) (d : Door) (f : DoorCtr → DoorCtr) : (s.countDoor d f).cft = s.cft := rfl
@[simp] theorem State.countDoor_tic (s : State) (d : Door) (f : DoorCtr → DoorCtr) : (s.countDoor d f).tic = s.tic := rfl
@[simp] theorem State.countDoor_ports (s : State) (d : Door) (f : DoorCtr → DoorCtr) : (s.countDoor d f).ports = s.ports := rfl
@[simp] theorem State.countDoor_urgent (s : State) (d : Door) (f : DoorCtr → DoorCtr) : (s.countDoor d f).urgent = s.urgent := rfl
@[simp] theorem State.countDoor_routes (s : State) (d : Door) (f : DoorCtr → DoorCtr) : (s.countDoor d f).routes = s.routes := rfl
@[simp] theorem State.countDoor_txs (s : State) (d : Door) (f : DoorCtr → DoorCtr) : (s.countDoor d f).txs = s.txs := rfl
@[simp] theorem State.countDoor_svr (s : State) (d : Door) (f : DoorCtr → DoorCtr) : (s.countDoor d f).svr = s.svr := rfl
@[simp] theorem State.countDoor_ctr (s : State) (d : Door) (f : DoorCtr → DoorCtr) : (s.countDoor d f).ctr = { s.ctr with dic := s.ctr.dic.set d (f (s.ctr.dic.get d)) } := rfl
@[simp] theorem State.countDoor_lines (s : State) (d : Door) (f : DoorCtr → DoorCtr) : (s.countDoor d f).lines = s.lines := rfl

@[simp] theorem State.countPort_pending (s : State) (p : PortId) (f : PortCtr → PortCtr) : (s.countPort p f).pending = s.pending := rfl
@[simp] theorem State.countPort_now (s : State) (p : PortId) (f : PortCtr → PortCtr) : (s.countPort p f).now = s.now := rfl
@[simp] theorem State.countPort_readerPref (s : State) (p : PortId) (f : PortCtr → PortCtr) : (s.countPort p f).readerPref = s.readerPref := rfl
@[simp] theorem State.countPort_mode (s : State) (p : PortId) (f : PortCtr → PortCtr) : (s.countPort p f).mode = s.mode := rfl
@[simp] theorem State.countPort_params (s : State) (p : PortId) (f : PortCtr → PortCtr) : (s.countPort p f).params = s.params := rfl
@[simp] theorem State.countPort_sgm (s : State) (p : PortId) (f : PortCtr → PortCtr) : (s.countPort p f).sgm = s.sgm := rfl
@[simp] theorem State.countPort_rse (s : State) (p : PortId) (f : PortCtr → PortCtr) : (s.countPort p f).rse = s.rse := rfl
@[simp] theorem State.countPort_bdu (s : State) (p : PortId) (f : PortCtr → PortCtr) : (s.countPort p f).bdu = s.bdu := rfl
@[simp] theorem State.countPort_rhc (s : State) (p : PortId) (f : PortCtr → PortCtr) : (s.countPort p f).rhc = s.rhc := rfl
@[simp] theorem State.countPort_dic (s : State) (p : PortId) (f : PortCtr → PortCtr) : (s.countPort p f).dic = s.dic := rfl
@[simp] theorem State.countPort_cft (s : State) (p : PortId) (f : PortCtr → PortCtr) : (s.countPort p f).cft = s.cft := rfl
@[simp] theorem State.countPort_tic (s : State) (p : PortId) (f : PortCtr → PortCtr) : (s.countPort p f).tic = s.tic := rfl
@[simp] theorem State.countPort_ports (s : State) (p : PortId) (f : PortCtr → PortCtr) : (s.countPort p f).ports = s.ports := rfl
@[simp] theorem State.countPort_urgent (s : State) (p : PortId) (f : PortCtr → PortCtr) : (s.countPort p f).urgent = s.urgent := rfl
@[simp] theorem State.countPort_routes (s : State) (p : PortId) (f : PortCtr → PortCtr) : (s.countPort p f).routes = s.routes := rfl
@[simp] theorem State.countPort_txs (s : State) (p : PortId) (f : PortCtr → PortCtr) : (s.countPort p f).txs = s.txs := rfl
@[simp] theorem State.countPort_svr (s : State) (p : PortId) (f : PortCtr → PortCtr) : (s.countPort p f).svr = s.svr := rfl
@[simp] theorem State.countPort_ctr (s : State) (p : PortId) (f : PortCtr → PortCtr) : (s.countPort p f).ctr = { s.ctr with frt := s.ctr.frt.set p (f (s.ctr.frt.get p)) } := rfl
@[simp] theorem State.countPort_lines (s : State) (p : PortId) (f : PortCtr → PortCtr) : (s.countPort p f).lines = s.lines := rfl

@[simp] theorem State.countChan_pending (s : State) (c : Fin 48) (f : ChanCtr → ChanCtr) : (s.countChan c f).pending = s.pending := rfl
@[simp] theorem State.countChan_now (s : State) (c : Fin 48) (f : ChanCtr → ChanCtr) : (s.countChan c f).now = s.now := rfl
@[simp] theorem State.countChan_readerPref (s : State) (c : Fin 48) (f : ChanCtr → ChanCtr) : (s.countChan c f).readerPref = s.readerPref := rfl
@[simp] theorem State.countChan_mode (s : State) (c : Fin 48) (f : ChanCtr → ChanCtr) : (s.countChan c f).mode = s.mode := rfl
@[simp] theorem State.countChan_params (s : State) (c : Fin 48) (f : ChanCtr → ChanCtr) : (s.countChan c f).params = s.params := rfl
@[simp] theorem State.countChan_sgm (s : State) (c : Fin 48) (f : ChanCtr → ChanCtr) : (s.countChan c f).sgm = s.sgm := rfl
@[simp] theorem State.countChan_rse (s : State) (c : Fin 48) (f : ChanCtr → ChanCtr) : (s.countChan c f).rse = s.rse := rfl
@[simp] theorem State.countChan_bdu (s : State) (c : Fin 48) (f : ChanCtr → ChanCtr) : (s.countChan c f).bdu = s.bdu := rfl
@[simp] theorem State.countChan_rhc (s : State) (c : Fin 48) (f : ChanCtr → ChanCtr) : (s.countChan c f).rhc = s.rhc := rfl
@[simp] theorem State.countChan_dic (s : State) (c : Fin 48) (f : ChanCtr → ChanCtr) : (s.countChan c f).dic = s.dic := rfl
@[simp] theorem State.countChan_cft (s : State) (c : Fin 48) (f : ChanCtr → ChanCtr) : (s.countChan c f).cft = s.cft := rfl
@[simp] theorem State.countChan_tic (s : State) (c : Fin 48) (f : ChanCtr → ChanCtr) : (s.countChan c f).tic = s.tic := rfl
@[simp] theorem State.countChan_ports (s : State) (c : Fin 48) (f : ChanCtr → ChanCtr) : (s.countChan c f).ports = s.ports := rfl
@[simp] theorem State.countChan_urgent (s : State) (c : Fin 48) (f : ChanCtr → ChanCtr) : (s.countChan c f).urgent = s.urgent := rfl
@[simp] theorem State.countChan_routes (s : State) (c : Fin 48) (f : ChanCtr → ChanCtr) : (s.countChan c f).routes = s.routes := rfl
@[simp] theorem State.countChan_txs (s : State) (c : Fin 48) (f : ChanCtr → ChanCtr) : (s.countChan c f).txs = s.txs := rfl
@[simp] theorem State.countChan_svr (s : State) (c : Fin 48) (f : ChanCtr → ChanCtr) : (s.countChan c f).svr = s.svr := rfl
@[simp] theorem State.countChan_ctr (s : State) (c : Fin 48) (f : ChanCtr → ChanCtr) : (s.countChan c f).ctr = { s.ctr with sgm := { s.ctr.sgm with chans := vmodify s.ctr.sgm.chans c f } } := rfl
@[simp] theorem State.countChan_lines (s : State) (c : Fin 48) (f : ChanCtr → ChanCtr) : (s.countChan c f).lines = s.lines := rfl

@[simp] theorem State.countBind_pending (s : State) (g : Sig) (f : BindCtr → BindCtr) : (s.countBind g f).pending = s.pending := rfl
@[simp] theorem State.countBind_now (s : State) (g : Sig) (f : BindCtr → BindCtr) : (s.countBind g f).now = s.now := rfl
@[simp] theorem State.countBind_readerPref (s : State) (g : Sig) (f : BindCtr → BindCtr) : (s.countBind g f).readerPref = s.readerPref := rfl
@[simp] theorem State.countBind_mode (s : State) (g : Sig) (f : BindCtr → BindCtr) : (s.countBind g f).mode = s.mode := rfl
@[simp] theorem State.countBind_params (s : State) (g : Sig) (f : BindCtr → BindCtr) : (s.countBind g f).params = s.params := rfl
@[simp] theorem State.countBind_sgm (s : State) (g : Sig) (f : BindCtr → BindCtr) : (s.countBind g f).sgm = s.sgm := rfl
@[simp] theorem State.countBind_rse (s : State) (g : Sig) (f : BindCtr → BindCtr) : (s.countBind g f).rse = s.rse := rfl
@[simp] theorem State.countBind_bdu (s : State) (g : Sig) (f : BindCtr → BindCtr) : (s.countBind g f).bdu = s.bdu := rfl
@[simp] theorem State.countBind_rhc (s : State) (g : Sig) (f : BindCtr → BindCtr) : (s.countBind g f).rhc = s.rhc := rfl
@[simp] theorem State.countBind_dic (s : State) (g : Sig) (f : BindCtr → BindCtr) : (s.countBind g f).dic = s.dic := rfl
@[simp] theorem State.countBind_cft (s : State) (g : Sig) (f : BindCtr → BindCtr) : (s.countBind g f).cft = s.cft := rfl
@[simp] theorem State.countBind_tic (s : State) (g : Sig) (f : BindCtr → BindCtr) : (s.countBind g f).tic = s.tic := rfl
@[simp] theorem State.countBind_ports (s : State) (g : Sig) (f : BindCtr → BindCtr) : (s.countBind g f).ports = s.ports := rfl
@[simp] theorem State.countBind_urgent (s : State) (g : Sig) (f : BindCtr → BindCtr) : (s.countBind g f).urgent = s.urgent := rfl
@[simp] theorem State.countBind_routes (s : State) (g : Sig) (f : BindCtr → BindCtr) : (s.countBind g f).routes = s.routes := rfl
@[simp] theorem State.countBind_txs (s : State) (g : Sig) (f : BindCtr → BindCtr) : (s.countBind g f).txs = s.txs := rfl
@[simp] theorem State.countBind_svr (s : State) (g : Sig) (f : BindCtr → BindCtr) : (s.countBind g f).svr = s.svr := rfl
@[simp] theorem State.countBind_ctr (s : State) (g : Sig) (f : BindCtr → BindCtr) : (s.countBind g f).ctr = { s.ctr with sgm := { s.ctr.sgm with binds := vmodify s.ctr.sgm.binds g.num f } } := rfl
@[simp] theorem State.countBind_lines (s : State) (g : Sig) (f : BindCtr → BindCtr) : (s.countBind g f).lines = s.lines := rfl

@[simp] theorem State.countCorner_pending (s : State) (k : Corner) (f : CornerCtr → CornerCtr) : (s.countCorner k f).pending = s.pending := rfl
@[simp] theorem State.countCorner_now (s : State) (k : Corner) (f : CornerCtr → CornerCtr) : (s.countCorner k f).now = s.now := rfl
@[simp] theorem State.countCorner_readerPref (s : State) (k : Corner) (f : CornerCtr → CornerCtr) : (s.countCorner k f).readerPref = s.readerPref := rfl
@[simp] theorem State.countCorner_mode (s : State) (k : Corner) (f : CornerCtr → CornerCtr) : (s.countCorner k f).mode = s.mode := rfl
@[simp] theorem State.countCorner_params (s : State) (k : Corner) (f : CornerCtr → CornerCtr) : (s.countCorner k f).params = s.params := rfl
@[simp] theorem State.countCorner_sgm (s : State) (k : Corner) (f : CornerCtr → CornerCtr) : (s.countCorner k f).sgm = s.sgm := rfl
@[simp] theorem State.countCorner_rse (s : State) (k : Corner) (f : CornerCtr → CornerCtr) : (s.countCorner k f).rse = s.rse := rfl
@[simp] theorem State.countCorner_bdu (s : State) (k : Corner) (f : CornerCtr → CornerCtr) : (s.countCorner k f).bdu = s.bdu := rfl
@[simp] theorem State.countCorner_rhc (s : State) (k : Corner) (f : CornerCtr → CornerCtr) : (s.countCorner k f).rhc = s.rhc := rfl
@[simp] theorem State.countCorner_dic (s : State) (k : Corner) (f : CornerCtr → CornerCtr) : (s.countCorner k f).dic = s.dic := rfl
@[simp] theorem State.countCorner_cft (s : State) (k : Corner) (f : CornerCtr → CornerCtr) : (s.countCorner k f).cft = s.cft := rfl
@[simp] theorem State.countCorner_tic (s : State) (k : Corner) (f : CornerCtr → CornerCtr) : (s.countCorner k f).tic = s.tic := rfl
@[simp] theorem State.countCorner_ports (s : State) (k : Corner) (f : CornerCtr → CornerCtr) : (s.countCorner k f).ports = s.ports := rfl
@[simp] theorem State.countCorner_urgent (s : State) (k : Corner) (f : CornerCtr → CornerCtr) : (s.countCorner k f).urgent = s.urgent := rfl
@[simp] theorem State.countCorner_routes (s : State) (k : Corner) (f : CornerCtr → CornerCtr) : (s.countCorner k f).routes = s.routes := rfl
@[simp] theorem State.countCorner_txs (s : State) (k : Corner) (f : CornerCtr → CornerCtr) : (s.countCorner k f).txs = s.txs := rfl
@[simp] theorem State.countCorner_svr (s : State) (k : Corner) (f : CornerCtr → CornerCtr) : (s.countCorner k f).svr = s.svr := rfl
@[simp] theorem State.countCorner_ctr (s : State) (k : Corner) (f : CornerCtr → CornerCtr) : (s.countCorner k f).ctr = { s.ctr with rhc := { s.ctr.rhc with corners := s.ctr.rhc.corners.set k (f (s.ctr.rhc.corners.get k)) } } := rfl
@[simp] theorem State.countCorner_lines (s : State) (k : Corner) (f : CornerCtr → CornerCtr) : (s.countCorner k f).lines = s.lines := rfl

/-! ### Collections read after a write -/

@[simp] theorem PerPort.get_set {α : Type} (v : PerPort α) (p q : PortId) (x : α) :
    (v.set p x).get q = if q = p then x else v.get q := by cases p <;> cases q <;> rfl

@[simp] theorem PerDoor.get_set {α : Type} (v : PerDoor α) (d e : Door) (x : α) :
    (v.set d x).get e = if e = d then x else v.get e := by cases d <;> cases e <;> rfl

@[simp] theorem PerCorner.get_set {α : Type} (v : PerCorner α) (k j : Corner) (x : α) :
    (v.set k x).get j = if j = k then x else v.get j := by cases k <;> cases j <;> rfl

@[simp] theorem PerCorner.get_ofFn {α : Type} (g : Corner → α) (k : Corner) : (PerCorner.ofFn g).get k = g k := by
  cases k <;> rfl

theorem PerPort.ext_get {α : Type} {v w : PerPort α} (h : ∀ p, v.get p = w.get p) : v = w := by
  cases v; cases w; have a := h .cab; have b := h .chassis; simp only [PerPort.get] at a b; subst a b; rfl

theorem PerDoor.ext_get {α : Type} {v w : PerDoor α} (h : ∀ d, v.get d = w.get d) : v = w := by
  cases v; cases w; have a := h .d1; have b := h .d2; have c := h .d3; have d := h .d4
  simp only [PerDoor.get] at a b c d; subst a b c d; rfl

theorem PerCorner.ext_get {α : Type} {v w : PerCorner α} (h : ∀ k, v.get k = w.get k) : v = w := by
  cases v; cases w; have a := h .fl; have b := h .fr; have c := h .ml; have d := h .mr; have e := h .rl; have f := h .rr
  simp only [PerCorner.get] at a b c d e f; subst a b c d e f; rfl

theorem PerDoor.all_iff {α : Type} (v : PerDoor α) (p : α → Bool) : v.all p = true ↔ ∀ d, p (v.get d) = true := by
  simp only [PerDoor.all, Bool.and_eq_true]
  exact ⟨fun ⟨⟨⟨a, b⟩, c⟩, d⟩ e => by cases e <;> assumption, fun h => ⟨⟨⟨h .d1, h .d2⟩, h .d3⟩, h .d4⟩⟩

theorem PerDoor.any_iff {α : Type} (v : PerDoor α) (p : α → Bool) : v.any p = true ↔ ∃ d, p (v.get d) = true := by
  simp only [PerDoor.any, Bool.or_eq_true]
  constructor
  · intro h
    rcases h with ((h | h) | h) | h
    · exact ⟨.d1, h⟩
    · exact ⟨.d2, h⟩
    · exact ⟨.d3, h⟩
    · exact ⟨.d4, h⟩
  · intro ⟨d, h⟩
    cases d <;> simp only [PerDoor.get] at h <;> simp [h]

@[simp] theorem State.door_putDoor (s : State) (d e : Door) (r : DoorRec) :
    (s.putDoor d r).door e = if e = d then r else s.door e := PerDoor.get_set ..

@[simp] theorem State.corner_putCorner (s : State) (k j : Corner) (r : CornerRec) :
    (s.putCorner k r).corner j = if j = k then r else s.corner j := PerCorner.get_set ..

@[simp] theorem State.port_setPort (s : State) (p q : PortId) (x : Port) :
    (s.setPort p x).port q = if q = p then x else s.port q := PerPort.get_set ..

@[simp] theorem HoldSet.has_put (h : HoldSet) (j k : HoldReason) (b : Bool) :
    (h.put k b).has j = if j = k then b else h.has j := by cases k <;> cases j <;> rfl

@[simp] theorem ReqSet.has_put (q : ReqSet) (j k : Requester) (b : Bool) :
    (q.put k b).has j = if j = k then b else q.has j := by cases k <;> cases j <;> rfl

theorem HoldSet.isEmpty_iff (h : HoldSet) : h.isEmpty = true ↔ ∀ k, h.has k = false := by
  refine ⟨fun e k => ?_, fun e => ?_⟩
  · simp only [HoldSet.isEmpty, Bool.not_eq_true', Bool.or_eq_false_iff] at e
    cases k <;> simp [HoldSet.has, e]
  · have a := e .door; have b := e .kneel; have c := e .mode; have d := e .fault; have f := e .reverse; have g := e .input
    simp only [HoldSet.has] at a b c d f g
    simp [HoldSet.isEmpty, a, b, c, d, f, g]

theorem ReqSet.isEmpty_iff (q : ReqSet) : q.isEmpty = true ↔ ∀ k, q.has k = false := by
  refine ⟨fun e k => ?_, fun e => ?_⟩
  · simp only [ReqSet.isEmpty, Bool.not_eq_true', Bool.or_eq_false_iff] at e
    cases k <;> simp [ReqSet.has, e]
  · have a := e .doors; have b := e .driver; have c := e .kneel; have d := e .mode; have f := e .emergency; have g := e .start
    simp only [ReqSet.has] at a b c d f g
    simp [ReqSet.isEmpty, a, b, c, d, f, g]

theorem ParamId.idx_inj {j k : ParamId} (h : j.idx = k.idx) : j = k := by
  cases j <;> cases k <;> first | rfl | cases h

@[simp] theorem Params.get_set (p : Params) (k j : ParamId) (v : Int) :
    (p.set k v).get j = if j = k then v else p.get j := by
  simp only [Params.get, Params.set]
  by_cases h : j = k
  · subst h; simp
  · have : k.idx.val ≠ j.idx.val := fun e => h (ParamId.idx_inj (Fin.ext e.symm))
    simp [h, Vector.getElem_set_ne _ _ this]

theorem getElem_vmap {α β : Type} {n : Nat} (g : α → β) (v : Vector α n) (i : Nat) (h : i < n) : (vmap g v)[i] = g v[i] := by
  simp [vmap]

theorem getElem_vmodify {α : Type} {n : Nat} (v : Vector α n) (i : Fin n) (g : α → α) (j : Nat) (h : j < n) :
    (vmodify v i g)[j] = if i.val = j then g v[j] else v[j] := by
  simp only [vmodify, Vector.getElem_set]
  split
  · next e => subst e; rfl
  · rfl

/-! ### What a reading of the state depends on -/

theorem State.reading_congr {s t : State} (h : t.sgm = s.sgm) (g : Sig) : t.reading g = s.reading g := by
  simp only [State.reading, h]

theorem State.value_congr {s t : State} (h : t.sgm = s.sgm) (g : Sig) : t.value g = s.value g := by
  simp only [State.value, State.reading, h]

theorem State.isLost_congr {s t : State} (h : t.sgm = s.sgm) (g : Sig) : t.isLost g = s.isLost g := by
  simp only [State.isLost, State.reading, h]

theorem State.isGood_congr {s t : State} (h : t.sgm = s.sgm) (g : Sig) : t.isGood g = s.isGood g := by
  simp only [State.isGood, State.reading, h]

theorem State.slow_congr {s t : State} (h : t.sgm = s.sgm) (v : Int) : t.slow v = s.slow v := by
  unfold State.slow
  rw [State.isGood_congr h, State.value_congr h]

theorem State.par_congr {s t : State} (h : t.params = s.params) (k : ParamId) : t.par k = s.par k := by
  simp only [State.par, h]

theorem State.parN_congr {s t : State} (h : t.params = s.params) (k : ParamId) : t.parN k = s.parN k := by
  simp only [State.parN, h]

end Sys2Proof.Machine
end

