-- ==== Sys2Proof/Laws/Frame.lean ====
section
/-! SUPPORT. What the operations that the blocks share leave alone: one lemma per operation, each saying that it stays within
`JobFrame` (a job, the tracker, the combiner) or `OutsideFrame` (the signal monitor as well). -/

namespace Sys2Proof.Safety

set_option Elab.async false

open Sys2Proof.Machine

theorem OutsideFrame.refl (s : State) : OutsideFrame s s :=
  ⟨rfl, rfl, rfl, rfl, rfl, rfl, rfl, rfl, rfl, ⟨rfl, rfl⟩, ⟨rfl, rfl⟩, rfl, rfl, rfl, rfl, rfl, rfl⟩

theorem OutsideFrame.trans {s t u : State} (h : OutsideFrame s t) (k : OutsideFrame t u) : OutsideFrame s u :=
  ⟨k.pending.trans h.pending, k.now.trans h.now, k.readerPref.trans h.readerPref, k.mode.trans h.mode,
   k.params.trans h.params, k.cab.trans h.cab, k.receive.trans h.receive, k.routes.trans h.routes, k.svr.trans h.svr,
   ⟨k.position.1.trans h.position.1, k.position.2.trans h.position.2⟩,
   ⟨k.schedule.1.trans h.schedule.1, k.schedule.2.trans h.schedule.2⟩, k.doorTable.trans h.doorTable,
   k.offsets.trans h.offsets, k.profiles.trans h.profiles, k.issued.trans h.issued, k.frtCab.trans h.frtCab,
   k.svrCtr.trans h.svrCtr⟩

theorem JobFrame.refl (s : State) : JobFrame s s := ⟨OutsideFrame.refl s, rfl, rfl⟩

theorem JobFrame.trans {s t u : State} (h : JobFrame s t) (k : JobFrame t u) : JobFrame s u :=
  ⟨h.toOutsideFrame.trans k.toOutsideFrame, k.sgm.trans h.sgm, k.sgmCtr.trans h.sgmCtr⟩

/-- A choice between two states within the frame is within it. -/
theorem JobFrame.ite {s t u : State} {c : Prop} [Decidable c] (ht : JobFrame s t) (hu : JobFrame s u) :
    JobFrame s (if c then t else u) := by split <;> assumption

theorem OutsideFrame.ite {s t u : State} {c : Prop} [Decidable c] (ht : OutsideFrame s t) (hu : OutsideFrame s u) :
    OutsideFrame s (if c then t else u) := by split <;> assumption

/-- A list of operations, each within the frame of the state it starts from. -/
theorem JobFrame.foldl {α : Type} (g : State → α → State) (h : ∀ t a, JobFrame t (g t a)) (l : List α) (s : State) :
    JobFrame s (l.foldl g s) := by
  induction l generalizing s with
  | nil => exact .refl s
  | cons a l ih => exact (h s a).trans (ih _)

theorem OutsideFrame.foldl {α : Type} (g : State → α → State) (h : ∀ t a, OutsideFrame t (g t a)) (l : List α) (s : State) :
    OutsideFrame s (l.foldl g s) := by
  induction l generalizing s with
  | nil => exact .refl s
  | cons a l ih => exact (h s a).trans (ih _)

end Sys2Proof.Safety

namespace Sys2Proof.Machine

open Sys2Proof.Safety

/-! ### The updates a job makes -/

theorem setBdu_frame (s : State) (x : Bdu) : JobFrame s (s.setBdu x) :=
  ⟨⟨rfl, rfl, rfl, rfl, rfl, rfl, rfl, rfl, rfl, ⟨rfl, rfl⟩, ⟨rfl, rfl⟩, rfl, rfl, rfl, rfl, rfl, rfl⟩, rfl, rfl⟩

theorem setTic_frame (s : State) (x : Tic) : JobFrame s (s.setTic x) :=
  ⟨⟨rfl, rfl, rfl, rfl, rfl, rfl, rfl, rfl, rfl, ⟨rfl, rfl⟩, ⟨rfl, rfl⟩, rfl, rfl, rfl, rfl, rfl, rfl⟩, rfl, rfl⟩

theorem setLines_frame (s : State) (x : Lines) : JobFrame s (s.setLines x) :=
  ⟨⟨rfl, rfl, rfl, rfl, rfl, rfl, rfl, rfl, rfl, ⟨rfl, rfl⟩, ⟨rfl, rfl⟩, rfl, rfl, rfl, rfl, rfl, rfl⟩, rfl, rfl⟩

theorem setCft_frame (s : State) (x : List Expectation) : JobFrame s (s.setCft x) :=
  ⟨⟨rfl, rfl, rfl, rfl, rfl, rfl, rfl, rfl, rfl, ⟨rfl, rfl⟩, ⟨rfl, rfl⟩, rfl, rfl, rfl, rfl, rfl, rfl⟩, rfl, rfl⟩

theorem setUrgent_frame (s : State) (x : List Frame) : JobFrame s (s.setUrgent x) :=
  ⟨⟨rfl, rfl, rfl, rfl, rfl, rfl, rfl, rfl, rfl, ⟨rfl, rfl⟩, ⟨rfl, rfl⟩, rfl, rfl, rfl, rfl, rfl, rfl⟩, rfl, rfl⟩

theorem setRse_frame (s : State) (x : Rse) (h : x.profiles = s.rse.profiles) (i : x.issued = s.rse.issued) :
    JobFrame s (s.setRse x) :=
  ⟨⟨rfl, rfl, rfl, rfl, rfl, rfl, rfl, rfl, rfl, ⟨rfl, rfl⟩, ⟨rfl, rfl⟩, rfl, rfl, h, i, rfl, rfl⟩, rfl, rfl⟩

theorem setRhc_frame (s : State) (x : Rhc) (h : x.offsets = s.rhc.offsets) : JobFrame s (s.setRhc x) :=
  ⟨⟨rfl, rfl, rfl, rfl, rfl, rfl, rfl, rfl, rfl, ⟨rfl, rfl⟩, ⟨rfl, rfl⟩, rfl, h, rfl, rfl, rfl, rfl⟩, rfl, rfl⟩

theorem setDic_frame (s : State) (x : Dic) (h : x.table = s.dic.table) : JobFrame s (s.setDic x) :=
  ⟨⟨rfl, rfl, rfl, rfl, rfl, rfl, rfl, rfl, rfl, ⟨rfl, rfl⟩, ⟨rfl, rfl⟩, h, rfl, rfl, rfl, rfl, rfl⟩, rfl, rfl⟩

theorem putDoor_frame (d : Door) (r : DoorRec) (s : State) : JobFrame s (s.putDoor d r) := setDic_frame s _ rfl

theorem putCorner_frame (k : Corner) (r : CornerRec) (s : State) : JobFrame s (s.putCorner k r) := setRhc_frame s _ rfl

theorem setTxs_frame (s : State) (x : Txs) (hc : x.cycle = s.txs.cycle) (hs : x.slot = s.txs.slot)
    (ht : x.table = s.txs.table) (hr : x.repeats = s.txs.repeats) : JobFrame s (s.setTxs x) :=
  ⟨⟨rfl, rfl, rfl, rfl, rfl, rfl, rfl, rfl, rfl, ⟨hc, hs⟩, ⟨ht, hr⟩, rfl, rfl, rfl, rfl, rfl, rfl⟩, rfl, rfl⟩

theorem setCtr_frame (s : State) (x : Counters) (hf : x.frt.cab = s.ctr.frt.cab) (hv : x.svr = s.ctr.svr)
    (hg : x.sgm = s.ctr.sgm) : JobFrame s (s.setCtr x) :=
  ⟨⟨rfl, rfl, rfl, rfl, rfl, rfl, rfl, rfl, rfl, ⟨rfl, rfl⟩, ⟨rfl, rfl⟩, rfl, rfl, rfl, rfl, hf, hv⟩, rfl, hg⟩

theorem countRse_frame (s : State) (g : RseCtr → RseCtr) : JobFrame s (s.countRse g) := setCtr_frame s _ rfl rfl rfl
theorem countBdu_frame (s : State) (g : BduCtr → BduCtr) : JobFrame s (s.countBdu g) := setCtr_frame s _ rfl rfl rfl
theorem countRhc_frame (s : State) (g : RhcCtr → RhcCtr) : JobFrame s (s.countRhc g) := setCtr_frame s _ rfl rfl rfl
theorem countCft_frame (s : State) (g : CftCtr → CftCtr) : JobFrame s (s.countCft g) := setCtr_frame s _ rfl rfl rfl
theorem countTic_frame (s : State) (g : TicCtr → TicCtr) : JobFrame s (s.countTic g) := setCtr_frame s _ rfl rfl rfl
theorem countTxs_frame (s : State) (g : TxsCtr → TxsCtr) : JobFrame s (s.countTxs g) := setCtr_frame s _ rfl rfl rfl
theorem countDoor_frame (s : State) (d : Door) (g : DoorCtr → DoorCtr) : JobFrame s (s.countDoor d g) :=
  setCtr_frame s _ rfl rfl rfl
theorem countCorner_frame (s : State) (k : Corner) (g : CornerCtr → CornerCtr) : JobFrame s (s.countCorner k g) :=
  setCtr_frame s _ rfl rfl rfl
theorem countChassis_frame (s : State) (g : PortCtr → PortCtr) : JobFrame s (s.countPort .chassis g) :=
  setCtr_frame s _ rfl rfl rfl

theorem setChassis_frame (s : State) (x : Port) (h : x.receive = (s.port .chassis).receive) :
    JobFrame s (s.setPort .chassis x) :=
  ⟨⟨rfl, rfl, rfl, rfl, rfl, rfl, h, rfl, rfl, ⟨rfl, rfl⟩, ⟨rfl, rfl⟩, rfl, rfl, rfl, rfl, rfl, rfl⟩, rfl, rfl⟩

end Sys2Proof.Machine

namespace Sys2Proof.Safety

open Sys2Proof.Machine

/-! ### The same, after operations within the frame -/

theorem JobFrame.thenRse {s t : State} {x : Rse} (h : JobFrame s t) (p : x.profiles = t.rse.profiles)
    (i : x.issued = t.rse.issued) : JobFrame s (t.setRse x) := h.trans (setRse_frame t x p i)
theorem JobFrame.thenRhc {s t : State} {x : Rhc} (h : JobFrame s t) (o : x.offsets = t.rhc.offsets) :
    JobFrame s (t.setRhc x) := h.trans (setRhc_frame t x o)
theorem JobFrame.thenChassis {s t : State} {x : Port} (h : JobFrame s t) (r : x.receive = (t.port .chassis).receive) :
    JobFrame s (t.setPort .chassis x) := h.trans (setChassis_frame t x r)
theorem JobFrame.thenCountRse {s t : State} {g : RseCtr → RseCtr} (h : JobFrame s t) : JobFrame s (t.countRse g) :=
  h.trans (countRse_frame t g)
theorem JobFrame.thenCountRhc {s t : State} {g : RhcCtr → RhcCtr} (h : JobFrame s t) : JobFrame s (t.countRhc g) :=
  h.trans (countRhc_frame t g)
theorem JobFrame.thenCountDoor {s t : State} {d : Door} {g : DoorCtr → DoorCtr} (h : JobFrame s t) :
    JobFrame s (t.countDoor d g) := h.trans (countDoor_frame t d g)
theorem JobFrame.thenCountCft {s t : State} {g : CftCtr → CftCtr} (h : JobFrame s t) : JobFrame s (t.countCft g) :=
  h.trans (countCft_frame t g)
theorem JobFrame.thenCountBdu {s t : State} {g : BduCtr → BduCtr} (h : JobFrame s t) : JobFrame s (t.countBdu g) :=
  h.trans (countBdu_frame t g)

end Sys2Proof.Safety

namespace Sys2Proof.Machine

open Sys2Proof.Safety

/-! ### The combiner, the hold reasons, the stop-brake line -/

theorem enterCombined_frame (c : Combined) (t : Timer) (s : State) : JobFrame s (s.enterCombined c t) :=
  (setTic_frame s _).trans (setLines_frame _ _)

theorem enterPermitted_frame (s : State) : JobFrame s s.enterPermitted :=
  (enterCombined_frame _ _ s).trans (countTic_frame _ _)

theorem reformCombined_frame (s : State) : JobFrame s (reformCombined s) := by
  unfold reformCombined
  split
  · exact (enterCombined_frame _ _ s).trans (countTic_frame _ _)
  · exact enterCombined_frame _ _ s
  · exact .ite (enterPermitted_frame s) (enterCombined_frame _ _ s)
  · exact .refl s

theorem changeSource_frame (k : Source) (b : Bool) (s : State) : JobFrame s (changeSource k b s) := by
  unfold changeSource
  exact .ite ((setTic_frame s _).trans (countTic_frame _ _)) ((setTic_frame s _).trans (countTic_frame _ _))

theorem reportSource_frame (k : Source) (b : Bool) (s : State) : JobFrame s (reportSource k b s) := by
  unfold reportSource
  exact .ite (.refl s) ((changeSource_frame k b s).trans (reformCombined_frame _))

theorem setHold_frame (k : HoldReason) (b : Bool) (s : State) : JobFrame s (setHold k b s) := setRse_frame s _ rfl rfl

theorem evaluateInput_frame (s : State) : JobFrame s (evaluateInput s) := setHold_frame _ _ s

theorem setStopBrake_frame (b : StopBrake) (s : State) : JobFrame s (setStopBrake b s) :=
  ((setBdu_frame s _).trans (setLines_frame _ _)).trans (reportSource_frame _ _ _)

/-! ### The chassis transmitter and the urgent path -/

theorem startTx_frame (src : TxSource) (f : Frame) (s : State) : JobFrame s (startTx .chassis src f s) :=
  setChassis_frame s _ rfl

theorem takeFromSource_frame (s : State) {x : TxSource × Frame × State} (h : takeFromSource .chassis s = some x) :
    JobFrame s x.2.2 := by
  unfold takeFromSource at h
  simp only at h
  split at h
  · cases h; exact setUrgent_frame s _
  · split at h
    · cases h; exact setChassis_frame s _ rfl
    · split at h
      · cases h; exact setChassis_frame s _ rfl
      · cases h

theorem chooseTx_frame (s : State) : JobFrame s (chooseTx .chassis s) := by
  unfold chooseTx
  refine .ite ?_ (.refl s)
  split
  · next h => exact (takeFromSource_frame s h).trans (startTx_frame _ _ _)
  · exact .refl s

/-- A placement into any source of the chassis port but the response buffer, which is the cab port's. -/
theorem placeFrame_frame {src : TxSource} (h : src ≠ .response) (f : Frame) (s : State) :
    JobFrame s (placeFrame .chassis src f s) := by
  unfold placeFrame
  refine .ite ?_ (.ite (JobFrame.thenChassis (JobFrame.thenChassis (.refl s) rfl) rfl) (countChassis_frame s _))
  refine JobFrame.trans ?_ (chooseTx_frame _)
  cases src with
  | urgent => exact setUrgent_frame s _
  | response => exact absurd rfl h
  | scheduled => exact setChassis_frame s _ rfl
  | forward => exact setChassis_frame s _ rfl

theorem countUrgent_frame (k : GenKind) (g : UrgentCtr → UrgentCtr) (s : State) : JobFrame s (countUrgent k g s) :=
  countTxs_frame s _

theorem urgentRequest_frame (k : GenKind) (fields : List Byte) (s : State) : JobFrame s (urgentRequest k fields s) := by
  unfold urgentRequest
  refine .ite (.refl s) ?_
  split
  · exact countUrgent_frame _ _ s
  · refine .ite (countUrgent_frame _ _ s) ?_
    refine JobFrame.trans (JobFrame.trans ?_ (placeFrame_frame (src := .urgent) (by decide) _ _)) (countUrgent_frame k _ _)
    exact setTxs_frame s _ rfl rfl rfl rfl

theorem urgentBac_frame (s : State) : JobFrame s (urgentBac s) := urgentRequest_frame _ _ s

theorem urgentDcm_frame (s : State) : JobFrame s (urgentDcm s) := urgentRequest_frame _ _ s

/-! ### Reports: doors, the stop brake, the kneel state, the air state -/

theorem evalGate_frame (d : Door) (s : State) : JobFrame s (evalGate d s) := by
  unfold evalGate releaseDoor
  exact .ite (JobFrame.thenCountDoor (putDoor_frame _ _ s)) (.refl s)

theorem evalGates_frame (s : State) : JobFrame s (evalGates s) :=
  JobFrame.foldl (fun t d => evalGate d t) (fun t d => evalGate_frame d t) allDoors s

theorem doorLockFailed_frame (d : Door) (s : State) : JobFrame s (doorLockFailed d s) := by
  unfold doorLockFailed
  exact .ite ((putDoor_frame _ _ s).trans (countDoor_frame _ _ _)) (.refl s)

theorem stopBrakeFailed_frame (k : ExpKey) (s : State) : JobFrame s (stopBrakeFailed k s) := by
  unfold stopBrakeFailed
  split
  · exact (setStopBrake_frame _ s).trans (countBdu_frame _ _)
  · exact ((setStopBrake_frame _ s).trans (setBdu_frame _ _)).trans (countBdu_frame _ _)
  · exact .refl s

theorem reportFailed_frame (k : ExpKey) (s : State) : JobFrame s (reportFailed k s) := by
  cases k
  · exact doorLockFailed_frame _ s
  · exact stopBrakeFailed_frame _ s
  · exact stopBrakeFailed_frame _ s

theorem judgeSample_frame (k : Corner) (h : Int) (s : State) : JobFrame s (judgeSample k h s) := by
  unfold judgeSample
  simp only
  split
  · exact putCorner_frame _ _ s
  · exact .ite (.refl s) (putCorner_frame _ _ s)
  · exact .ite ((putCorner_frame _ _ s).trans (countCorner_frame _ _ _)) (.refl s)
  · exact .refl s
  · exact .refl s

theorem forceActive_frame (s : State) : JobFrame s (forceActive s) := setRhc_frame s _ rfl

theorem settleCorners_frame (s : State) : JobFrame s (settleCorners s) := setRhc_frame s _ rfl

theorem setTargets_frame (s : State) : JobFrame s (setTargets s) := setRhc_frame s _ rfl

theorem setLevel_frame (m : LevelMode) (s : State) : JobFrame s (setLevel m s) :=
  ((setRhc_frame s { s.rhc with level := m } rfl).trans (setTargets_frame _)).trans (reportSource_frame _ _ _)

theorem enterKnelt_frame (s : State) : JobFrame s (enterKnelt s) :=
  ((setRhc_frame s { s.rhc with kneel := .knelt, kneelTimer := .stopped } rfl).trans (settleCorners_frame _)).trans
    (evalGates_frame _)

theorem markIncomplete_frame (s : State) : JobFrame s (markIncomplete s) := by
  unfold markIncomplete
  exact .ite (setRhc_frame s _ rfl) (.refl s)

theorem checkLowered_frame (s : State) : JobFrame s (checkLowered s) := by
  unfold checkLowered
  exact .ite ((markIncomplete_frame s).trans (enterKnelt_frame _)) (.refl s)

theorem enterLowering_frame (s : State) : JobFrame s (enterLowering s) := by
  unfold enterLowering
  have h1 := (setRhc_frame s { s.rhc with
    kneel := .lowering, pending := .none, incomplete := false
    kneelTimer := s.timer (s.parN .kneelTimeout), raiseTimer := .stopped } rfl).trans (setLevel_frame .kneel _)
  have h2 := (((h1.trans (forceActive_frame _)).trans (setHold_frame .kneel true _)).trans
    (reportSource_frame .kneel true _)).trans (evalGates_frame _)
  exact .ite (h2.trans (checkLowered_frame _)) h2

theorem evalKneelGate_frame (s : State) : JobFrame s (evalKneelGate s) := by
  unfold evalKneelGate
  exact .ite (enterLowering_frame s) (.refl s)

theorem setAir_frame (ok : Bool) (s : State) : JobFrame s (setAir ok s) := by
  unfold setAir
  have h1 := (setRhc_frame s { s.rhc with airOk := ok } rfl).trans (reportSource_frame .airLow (!ok) _)
  refine JobFrame.trans ?_ (evalKneelGate_frame _)
  exact .ite (.ite (.ite h1 (h1.thenRhc rfl)) (h1.thenRhc rfl)) h1

theorem evalAir_frame (s : State) : JobFrame s (evalAir s) := by
  unfold evalAir
  exact .ite (.ite (setAir_frame _ s) (.refl s)) (.ite (setAir_frame _ s) (.refl s))

theorem withDcm_frame {g : State → State} (h : ∀ s, JobFrame s (g s)) (s : State) : JobFrame s (withDcm g s) := by
  unfold withDcm
  exact .ite (h s) ((h s).trans (urgentDcm_frame _))

theorem almostFullEnded_frame (s : State) : JobFrame s (almostFullEnded s) :=
  (withDcm_frame evalGates_frame s).trans (evalKneelGate_frame _)

/-- One event at a block stays within the frame if its handling does. -/
theorem blockEvent_frame {g : State → State} (h : ∀ s, JobFrame s (g s)) (s : State) : JobFrame s (blockEvent g s) := by
  unfold blockEvent
  exact .ite ((withDcm_frame h s).trans (almostFullEnded_frame _)) (withDcm_frame h s)

/-! ### The tracker -/

theorem countKind_frame (k : ExpKey) (g : KindCtr → KindCtr) (s : State) : JobFrame s (countKind k g s) := countCft_frame s _

theorem supersede_frame (k : ExpKey) (s : State) : JobFrame s (supersede k s) := by
  unfold supersede
  exact .ite ((setCft_frame s _).trans (countCft_frame _ _)) (.refl s)

theorem evictHead_frame (s : State) : JobFrame s (evictHead s) := by
  unfold evictHead
  split
  · exact (setCft_frame s _).trans (countKind_frame _ _ _)
  · exact .refl s

theorem supersedeStep_frame (k : ExpKey) (s : State) : JobFrame s (supersedeStep k s) := by
  unfold supersedeStep
  exact .ite ((supersede_frame k s).trans (almostFullEnded_frame _)) (supersede_frame k s)

theorem appendEntry_frame (k : ExpKey) (ms : Nat) (s : State) : JobFrame s (appendEntry k ms s) := by
  unfold appendEntry
  exact JobFrame.thenCountCft ((setCft_frame s _).trans (countKind_frame k _ _))

theorem place_frame (k : ExpKey) (ms : Nat) (s : State) : JobFrame s (place k ms s) := by
  unfold place
  have h := ((supersedeStep_frame k s).trans (evictHead_frame _)).trans (appendEntry_frame k ms _)
  simp only
  split
  · exact h.trans (reportFailed_frame _ _)
  · exact h

theorem cancel_frame (k : ExpKey) (s : State) : JobFrame s (cancel k s) := by
  unfold cancel
  exact .ite ((setCft_frame s _).trans (countCft_frame _ _)) (countCft_frame s _)

theorem expire_frame (k : ExpKey) (s : State) : JobFrame s (expire k s) := by
  unfold expire
  exact .ite (((setCft_frame s _).trans (countKind_frame _ _ _)).trans (reportFailed_frame _ _)) (.refl s)

/-! ### The brake distribution unit -/

theorem enterApplying_frame (s : State) : JobFrame s (enterApplying s) := by
  unfold enterApplying
  exact JobFrame.thenCountBdu ((((setStopBrake_frame .applying s).trans (setBdu_frame _ _)).trans (place_frame _ _ _)).trans
    (urgentBac_frame _))

theorem enterReleasing_frame (s : State) : JobFrame s (enterReleasing s) :=
  (setStopBrake_frame .releasing s).trans (place_frame _ _ _)

theorem enterApplied_frame (s : State) : JobFrame s (enterApplied s) :=
  ((setStopBrake_frame .applied s).trans (evalGates_frame _)).trans (evalKneelGate_frame _)

theorem putReq_frame (k : Requester) (b : Bool) (s : State) : JobFrame s (putReq k b s) := setBdu_frame s _

theorem firstRequester_frame (s : State) : JobFrame s (firstRequester s) := by
  unfold firstRequester
  split
  · exact .ite (enterApplying_frame s) (setStopBrake_frame _ s)
  · exact (cancel_frame _ s).trans (enterApplying_frame _)
  · exact .refl s

theorem lastRequester_frame (s : State) : JobFrame s (lastRequester s) := by
  unfold lastRequester
  split
  · exact setStopBrake_frame _ s
  · exact (cancel_frame _ s).trans (enterReleasing_frame _)
  · exact enterReleasing_frame s
  · exact enterReleasing_frame s
  · exact .refl s

theorem addReq_frame (k : Requester) (s : State) : JobFrame s (addReq k s) := by
  unfold addReq
  exact .ite (.refl s) (.ite ((putReq_frame k true s).trans (firstRequester_frame _)) (putReq_frame k true s))

theorem removeReq_frame (k : Requester) (s : State) : JobFrame s (removeReq k s) := by
  unfold removeReq
  exact .ite (.ite ((putReq_frame k false s).trans (lastRequester_frame _)) (putReq_frame k false s)) (.refl s)

theorem request_frame (k : Requester) (b : Bool) (s : State) : JobFrame s (request k b s) := by
  unfold request
  exact .ite (addReq_frame k s) (removeReq_frame k s)

theorem evalPending_frame (s : State) : JobFrame s (evalPending s) := by
  unfold evalPending
  exact .ite (enterApplying_frame s) (.refl s)

theorem stopBrakeSatisfied_frame (k : ExpKey) (s : State) : JobFrame s (stopBrakeSatisfied k s) := by
  unfold stopBrakeSatisfied
  split
  · exact enterApplied_frame s
  · exact setStopBrake_frame _ s
  · exact .refl s

theorem pressureArrival_frame (v : Int) (s : State) : JobFrame s (pressureArrival v s) := by
  unfold pressureArrival
  split
  · exact .ite ((countBdu_frame s _).trans (enterApplying_frame _)) (.refl s)
  · exact .ite ((countBdu_frame s _).trans (enterApplied_frame _)) (.refl s)
  · exact .refl s

theorem formDemand_frame (s : State) : JobFrame s (formDemand s) := by
  unfold formDemand
  exact .ite (.ite (setBdu_frame s _) ((setBdu_frame s _).trans (countBdu_frame _ _))) (setBdu_frame s _)

theorem formWeights_frame (s : State) : JobFrame s (formWeights s) := by
  unfold formWeights
  exact .ite (.refl s) (setBdu_frame s _)

theorem bduDrq_frame (e : SigEvent) (s : State) : JobFrame s (bduDrq e s) := by
  unfold bduDrq
  exact .ite ((request_frame _ _ s).trans (removeReq_frame _ _)) (request_frame _ _ s)

theorem bduEvent_frame (e : SigEvent) (s : State) : JobFrame s (bduEvent e s) := by
  unfold bduEvent
  split
  · exact formDemand_frame s
  · exact formWeights_frame s
  · exact formWeights_frame s
  · exact formWeights_frame s
  · exact evalPending_frame s
  · exact .ite (pressureArrival_frame _ s) (.refl s)
  · exact .ite (pressureArrival_frame _ s) (.refl s)
  · exact bduDrq_frame e s
  · exact .refl s

/-! ### The rear-axle steering engine -/

theorem moveOdo_frame (v : Dist) (s : State) : JobFrame s (moveOdo v s) := by
  unfold moveOdo
  split
  · exact setRse_frame s _ rfl rfl
  · exact .ite (setRse_frame s _ rfl rfl) (.ite (.refl s)
      (.ite (JobFrame.thenCountRse (setRse_frame s _ rfl rfl)) (JobFrame.thenCountRse (setRse_frame s _ rfl rfl))))

theorem rseOdo_frame (e : SigEvent) (s : State) : JobFrame s (rseOdo e s) := by
  unfold rseOdo
  exact .ite (setRse_frame s _ rfl rfl) (.ite (moveOdo_frame _ s) (.refl s))

theorem rseGear_frame (e : SigEvent) (s : State) : JobFrame s (rseGear e s) := by
  unfold rseGear
  exact .ite (.refl s) ((setRse_frame s { s.rse with
    reverse := e.value == 2, trace := if e.value == 2 then [] else s.rse.trace } rfl rfl).trans (setHold_frame _ _ _))

theorem appendSample_frame (a : Int) (s : State) : JobFrame s (appendSample a s) := by
  unfold appendSample
  split
  · exact .refl s
  · refine .ite (.refl s) (.ite ?_ (.refl s))
    exact .ite (JobFrame.thenCountRse (setRse_frame s _ rfl rfl)) (setRse_frame s _ rfl rfl)

theorem crossfaded_frame (a v : Int) (s : State) : JobFrame s (s.crossfaded a v).2 := by
  unfold State.crossfaded
  simp only
  split
  · exact .refl s
  · split
    · dsimp only
      exact JobFrame.thenCountRse (setRse_frame s _ rfl rfl)
    · exact setRse_frame s _ rfl rfl

theorem computeTarget_frame (a : Int) (s : State) : JobFrame s (computeTarget a s) :=
  (crossfaded_frame (s.followAngle a) (s.value .vsp) s).trans (setRse_frame _ _ rfl rfl)

theorem fwaArrival_frame (a : Int) (s : State) : JobFrame s (fwaArrival a s) := by
  unfold fwaArrival
  exact .ite (appendSample_frame a s) ((appendSample_frame a s).trans (computeTarget_frame a _))

theorem rseFwa_frame (e : SigEvent) (s : State) : JobFrame s (rseFwa e s) := by
  unfold rseFwa
  have h : JobFrame s (if e.arrival then fwaArrival e.value s else s) := .ite (fwaArrival_frame _ s) (.refl s)
  exact .ite (h.trans (evaluateInput_frame _)) h

theorem latchSteerFault_frame (s : State) : JobFrame s (latchSteerFault s) :=
  (((setRse_frame s { s.rse with fault := true, mismatchRun := 0 } rfl rfl).trans (countRse_frame _ _)).trans
    (setHold_frame .fault true _)).trans (reportSource_frame _ _ _)

theorem clearSteerFault_frame (s : State) : JobFrame s (clearSteerFault s) :=
  ((setRse_frame s { s.rse with fault := false, mismatchRun := 0 } rfl rfl).trans (setHold_frame .fault false _)).trans
    (reportSource_frame _ _ _)

theorem compareRsa_frame (v : Int) (s : State) : JobFrame s (compareRsa v s) := by
  unfold compareRsa
  exact .ite (.ite (latchSteerFault_frame s) (setRse_frame s _ rfl rfl)) (setRse_frame s _ rfl rfl)

theorem rseRsa_frame (e : SigEvent) (s : State) : JobFrame s (rseRsa e s) := by
  unfold rseRsa
  exact .ite (.refl s) (.ite (latchSteerFault_frame s) (.ite (compareRsa_frame _ s) (.refl s)))

theorem evaluateJackknife_frame (s : State) : JobFrame s (evaluateJackknife s) := by
  unfold evaluateJackknife
  refine .ite (.refl s) (JobFrame.trans ?_ (reportSource_frame _ _ _))
  exact .ite (JobFrame.thenCountRse (setRse_frame s _ rfl rfl)) (setRse_frame s _ rfl rfl)

theorem rseArtVsp_frame (e : SigEvent) (s : State) : JobFrame s (rseArtVsp e s) := by
  unfold rseArtVsp
  exact JobFrame.trans (.ite (evaluateInput_frame s) (.refl s)) (evaluateJackknife_frame _)

theorem rseEvent_frame (e : SigEvent) (s : State) : JobFrame s (rseEvent e s) := by
  unfold rseEvent
  split
  · exact rseFwa_frame e s
  · exact rseArtVsp_frame e s
  · exact rseArtVsp_frame e s
  · exact rseOdo_frame e s
  · exact rseGear_frame e s
  · exact rseRsa_frame e s
  · exact .refl s

/-! ### The ride height controller -/

theorem enterRide_frame (s : State) : JobFrame s (enterRide s) :=
  (((((((setRhc_frame s { s.rhc with kneel := .ride, raiseTimer := .stopped, origin := .none } rfl).trans
    (settleCorners_frame _)).trans (setHold_frame .kneel false _)).trans (reportSource_frame .kneel false _)).trans
    (formWeights_frame _)).trans (removeReq_frame .kneel _))).trans (evalGates_frame _)

theorem checkRaised_frame (s : State) : JobFrame s (checkRaised s) := by
  unfold checkRaised
  exact .ite ((markIncomplete_frame s).trans (enterRide_frame _)) (.refl s)

theorem checkComplete_frame (s : State) : JobFrame s (checkComplete s) := by
  unfold checkComplete
  exact .ite (checkLowered_frame s) (checkRaised_frame s)

theorem enterRaising_frame (s : State) : JobFrame s (enterRaising s) := by
  unfold enterRaising
  have h2 := ((setRhc_frame s { s.rhc with kneel := .raising, pending := .none, kneelTimer := .stopped } rfl).trans
    (setLevel_frame .ride _)).trans (forceActive_frame _)
  refine .ite (JobFrame.trans ?_ (checkRaised_frame _)) ?_ <;>
  · refine JobFrame.trans ?_ (evalGates_frame _)
    refine JobFrame.trans ?_ (reportSource_frame .kneel true _)
    refine JobFrame.trans ?_ (setHold_frame .kneel true _)
    exact .ite (h2.trans (setRhc_frame _ _ rfl)) h2

theorem raiseRequest_frame (s : State) : JobFrame s (raiseRequest s) := by
  unfold raiseRequest
  split
  · exact .ite (setRhc_frame s _ rfl) (enterRaising_frame s)
  · exact .ite (setRhc_frame s _ rfl) (enterRaising_frame s)
  · exact .refl s
  · exact .refl s

theorem cancelKneel_frame (s : State) : JobFrame s (cancelKneel s) := by
  unfold cancelKneel
  refine .ite (JobFrame.thenCountRhc (JobFrame.trans ?_ (removeReq_frame .kneel _))) (.refl s)
  exact setRhc_frame s _ rfl

theorem kneelRequest_frame (o : Origin) (s : State) : JobFrame s (kneelRequest o s) := by
  unfold kneelRequest
  simp only
  split
  · refine .ite (countRhc_frame s _) (.ite (setRhc_frame s _ rfl) ?_)
    refine JobFrame.trans (JobFrame.trans ?_ (addReq_frame .kneel _)) (evalKneelGate_frame _)
    exact setRhc_frame s _ rfl
  · exact setRhc_frame s _ rfl
  · exact setRhc_frame s _ rfl
  · refine .ite (JobFrame.thenCountRhc (JobFrame.trans ?_ (enterLowering_frame _))) (countRhc_frame s _)
    exact setRhc_frame s _ rfl

theorem allDoorsLocked_frame (s : State) : JobFrame s (allDoorsLocked s) := by
  unfold allDoorsLocked
  split
  · exact .ite (cancelKneel_frame s) (.refl s)
  · exact .ite (enterRaising_frame s) (.refl s)
  · exact .ite (enterRaising_frame s) (.refl s)
  · exact .refl s

theorem kneelTimerExpired_frame (s : State) : JobFrame s (kneelTimerExpired s) := by
  unfold kneelTimerExpired
  refine .ite (.ite (JobFrame.thenCountRhc (JobFrame.trans ?_ (enterKnelt_frame _))) (setRhc_frame s _ rfl)) (.refl s)
  exact setRhc_frame s _ rfl

theorem raiseTimerExpired_frame (s : State) : JobFrame s (raiseTimerExpired s) := by
  unfold raiseTimerExpired
  exact .ite (.ite (JobFrame.thenCountRhc (JobFrame.thenRhc (setRhc_frame s _ rfl) rfl)) (setRhc_frame s _ rfl)) (.refl s)

theorem highReturn_frame (s : State) : JobFrame s (highReturn s) := (setLevel_frame .ride s).trans (countRhc_frame _ _)

theorem switchHigh_frame (s : State) : JobFrame s (switchHigh s) := by
  unfold switchHigh
  exact .ite (setLevel_frame _ s) (countRhc_frame s _)

theorem switchAction_frame (p : SwitchPos) (s : State) : JobFrame s (switchAction p s) := by
  unfold switchAction
  split
  · exact kneelRequest_frame _ s
  · exact .ite (cancelKneel_frame s) (raiseRequest_frame s)
  · exact switchHigh_frame s
  · have h : JobFrame s (if s.rhc.kneel = .ride then cancelKneel s else s) := .ite (cancelKneel_frame s) (.refl s)
    exact .ite (h.trans (setLevel_frame _ _)) h
  · exact .refl s

theorem rhcKsw_frame (e : SigEvent) (s : State) : JobFrame s (rhcKsw e s) := by
  unfold rhcKsw
  exact .ite ((cancelKneel_frame s).trans (setRhc_frame _ _ rfl))
    (.ite (.refl s) ((setRhc_frame s { s.rhc with lastPos := switchPosOf e.value } rfl).trans (switchAction_frame _ _)))

theorem freezeCorners_frame (on : Bool) (s : State) : JobFrame s (freezeCorners on s) := setRhc_frame s _ rfl

/-- What follows a change of the corners stays within the frame if the change did. -/
theorem JobFrame.thenCornersChanged {s t : State} (h : JobFrame s t) (before : State) : JobFrame s (cornersChanged before t) := by
  unfold cornersChanged
  exact h.trans (JobFrame.trans (.ite (.refl t) (checkComplete_frame t)) (evalKneelGate_frame _))

theorem evalFreeze_frame (s : State) : JobFrame s (evalFreeze s) := by
  unfold evalFreeze
  refine .ite (.refl s) (JobFrame.thenCornersChanged ?_ s)
  have h := (setRhc_frame s { s.rhc with freeze := s.freezeWanted } rfl).trans (freezeCorners_frame s.freezeWanted _)
  exact .ite (h.trans (countRhc_frame _ _)) h

theorem cornerOff_frame (k : Corner) (s : State) : JobFrame s (cornerOff k s) :=
  (putCorner_frame k _ s).trans (countCorner_frame _ _ _)

theorem cornerRecovered_frame (k : Corner) (s : State) : JobFrame s (cornerRecovered k s) := putCorner_frame k _ s

theorem rhcHeight_frame (k : Corner) (e : SigEvent) (s : State) : JobFrame s (rhcHeight k e s) := by
  unfold rhcHeight
  refine .ite (JobFrame.thenCornersChanged (cornerOff_frame k s) s) (.ite ?_ (evalKneelGate_frame s))
  refine JobFrame.trans (JobFrame.trans (JobFrame.trans ?_ (judgeSample_frame k e.value _)) (checkComplete_frame _))
    (evalKneelGate_frame _)
  exact .ite (cornerRecovered_frame k s) (.refl s)

theorem rhcRsv_frame (e : SigEvent) (s : State) : JobFrame s (rhcRsv e s) := by
  unfold rhcRsv
  exact .ite (.ite (setAir_frame _ s) (.refl s))
    (.ite (JobFrame.trans (JobFrame.trans (setRhc_frame s { s.rhc with airEstimate := (e.value * 16).toNat } rfl)
      (evalAir_frame _)) (evalKneelGate_frame _)) (.refl s))

theorem rhcVsp_frame (e : SigEvent) (s : State) : JobFrame s (rhcVsp e s) := by
  unfold rhcVsp
  refine JobFrame.trans ?_ (evalKneelGate_frame _)
  have h2 : JobFrame s (if (evalFreeze s).rhc.level = .high ∧
      (e.arrival && decide (s.par .highSpeed < e.value) || (!e.arrival && e.loses)) = true
      then highReturn (evalFreeze s) else evalFreeze s) :=
    .ite ((evalFreeze_frame s).trans (highReturn_frame _)) (evalFreeze_frame s)
  exact .ite ((h2.trans (cancelKneel_frame _)).trans (raiseRequest_frame _)) h2

theorem rhcEvent_frame (e : SigEvent) (s : State) : JobFrame s (rhcEvent e s) := by
  unfold rhcEvent
  split
  · exact rhcVsp_frame e s
  · exact rhcRsv_frame e s
  · exact rhcKsw_frame e s
  · exact evalFreeze_frame s
  · split
    · exact rhcHeight_frame _ e s
    · exact .refl s

theorem wakeExpired_frame (k : Corner) (s : State) : JobFrame s (wakeExpired k s) := by
  unfold wakeExpired
  exact .ite (.ite (JobFrame.thenCornersChanged (putCorner_frame k _ s) s) (putCorner_frame k _ s)) (.refl s)

theorem clearKneelFault_frame (s : State) : JobFrame s (clearKneelFault s) := by
  unfold clearKneelFault
  have h := setRhc_frame s { s.rhc with fault := false } rfl
  exact .ite (.ite (h.trans (setRhc_frame _ _ rfl)) h) (.refl s)

theorem unitResetRhc_frame (s : State) : JobFrame s (unitResetRhc s) := by
  unfold unitResetRhc
  have h := setRhc_frame s { s.rhc with
    corners := PerCorner.ofFn s.resetCorner, lastPos := .none, pending := .none } rfl
  refine .ite (JobFrame.trans ?_ (removeReq_frame .kneel _)) h
  exact JobFrame.thenRhc h rfl

/-! ### The door interlock -/

theorem evalEmergency_frame (s : State) : JobFrame s (evalEmergency s) := request_frame _ _ s

theorem changeDoor_frame (d : Door) (r : DoorRec) (s : State) : JobFrame s (changeDoor d r s) := by
  unfold changeDoor
  have h1 := putDoor_frame d r s
  have h2 : JobFrame s (if s.someUnlocked = (s.putDoor d r).someUnlocked then s.putDoor d r
      else request .doors (s.putDoor d r).someUnlocked (s.putDoor d r)) := .ite h1 (h1.trans (request_frame _ _ _))
  have h3 := h2.trans (setHold_frame .door (s.putDoor d r).someRearUnlocked _)
  have h5 := (JobFrame.ite (c := (s.someUnlocked && !(s.putDoor d r).someUnlocked) = true)
    (h3.trans (allDoorsLocked_frame _)) h3).trans (reportSource_frame .doorOpen (s.putDoor d r).someUnlocked _)
  have h6 := h5.trans (reportSource_frame .emergency (s.putDoor d r).someEmergency _)
  exact .ite h6 (h6.trans (evalEmergency_frame _))

theorem lockDoor_frame (d : Door) (s : State) : JobFrame s (lockDoor d s) := changeDoor_frame _ _ s

theorem prepareDoor_frame (d : Door) (s : State) : JobFrame s (prepareDoor d s) := by
  unfold prepareDoor
  refine JobFrame.trans ?_ (evalGate_frame d _)
  exact .ite ((changeDoor_frame _ _ s).trans (kneelRequest_frame _ _)) (changeDoor_frame _ _ s)

theorem withdraw_frame (d : Door) (s : State) : JobFrame s (withdraw d s) := (putDoor_frame d _ s).trans (place_frame _ _ _)

theorem closeWarned_frame (d : Door) (s : State) : JobFrame s (closeWarned d s) := by
  unfold closeWarned
  exact .ite ((changeDoor_frame _ _ s).trans (withdraw_frame _ _)) (changeDoor_frame _ _ s)

theorem closeUnwarned_frame (d : Door) (s : State) : JobFrame s (closeUnwarned d s) :=
  (changeDoor_frame _ _ s).trans (withdraw_frame _ _)

theorem openDoor_frame (d : Door) (s : State) : JobFrame s (openDoor d s) := changeDoor_frame _ _ s

theorem cancelLock_frame (d : Door) (s : State) : JobFrame s (cancelLock d s) := by
  unfold cancelLock
  exact .ite (cancel_frame _ s) (.refl s)

theorem obstruct_frame (d : Door) (s : State) : JobFrame s (obstruct d s) := by
  unfold obstruct
  exact JobFrame.thenCountDoor ((cancelLock_frame d s).trans (changeDoor_frame d _ _))

theorem reRelease_frame (d : Door) (s : State) : JobFrame s (reRelease d s) := by
  unfold reRelease
  exact .ite (((cancelLock_frame d s).trans (changeDoor_frame d _ _)).trans (countDoor_frame _ _ _)) (.refl s)

theorem ventDoor_frame (d : Door) (s : State) : JobFrame s (ventDoor d s) := by
  unfold ventDoor
  exact JobFrame.thenCountDoor ((cancelLock_frame d s).trans (changeDoor_frame d _ _))

theorem faultDoor_frame (d : Door) (s : State) : JobFrame s (faultDoor d s) :=
  (changeDoor_frame d _ s).trans (countDoor_frame _ _ _)

theorem emergencyResetDoor_frame (d : Door) (s : State) : JobFrame s (emergencyResetDoor d s) := by
  unfold emergencyResetDoor
  simp only
  split
  · exact .ite (lockDoor_frame d s) (putDoor_frame d _ s)
  · exact .ite (lockDoor_frame d s) (.refl s)
  · exact .refl s

theorem closeAllDoor_frame (d : Door) (s : State) : JobFrame s (closeAllDoor d s) := by
  unfold closeAllDoor
  split
  · exact lockDoor_frame d s
  · exact closeUnwarned_frame d s
  · exact closeWarned_frame d s
  · exact .refl s

theorem releaseBitDoor_frame (d : Door) (s : State) : JobFrame s (releaseBitDoor d s) := by
  unfold releaseBitDoor
  split
  · exact prepareDoor_frame d s
  · exact reRelease_frame d s
  · exact .refl s

theorem forDoors_frame {g : Door → State → State} (h : ∀ d s, JobFrame s (g d s)) (s : State) : JobFrame s (forDoors g s) :=
  JobFrame.foldl (fun t d => g d t) (fun t d => h d t) allDoors s

theorem drqArrival_frame (v : Int) (s : State) : JobFrame s (drqArrival v s) := by
  unfold drqArrival
  refine JobFrame.trans ?_ (evalGates_frame _)
  have h1 := setDic_frame s { s.dic with last := driverRecOf v } rfl
  have h2 := JobFrame.ite (c := ((driverRecOf v).emergencyReset && !s.dic.last.emergencyReset) = true)
    (h1.trans (forDoors_frame emergencyResetDoor_frame _)) h1
  have h3 := JobFrame.ite (c := ((driverRecOf v).closeAll && !s.dic.last.closeAll) = true)
    (h2.trans (forDoors_frame closeAllDoor_frame _)) h2
  exact .ite h3 (h3.trans (forDoors_frame (fun d t => .ite (releaseBitDoor_frame d t) (.refl t)) _))

theorem drqLost_frame (s : State) : JobFrame s (drqLost s) :=
  forDoors_frame (fun d t => .ite ((lockDoor_frame d t).trans (countDoor_frame _ _ _)) (.refl t)) s

theorem dicDrq_frame (e : SigEvent) (s : State) : JobFrame s (dicDrq e s) := by
  unfold dicDrq
  exact .ite (drqLost_frame s) (.ite (drqArrival_frame _ s) (.refl s))

theorem retrigger_frame (d : Door) (s : State) : JobFrame s (retrigger d s) := by
  unfold retrigger
  exact .ite (putDoor_frame d _ s) (.refl s)

theorem statusArrival_frame (d : Door) (v : Int) (s : State) : JobFrame s (statusArrival d v s) := by
  unfold statusArrival
  refine .ite (.ite (.refl s) (ventDoor_frame d s)) ?_
  split
  · exact .ite (openDoor_frame d s) (.refl s)
  · exact .ite (retrigger_frame d s) (.refl s)
  · exact .ite (obstruct_frame d s) (.refl s)
  · exact .ite (faultDoor_frame d s) (.ite (lockDoor_frame d s) (.refl s))
  · exact .refl s
  · exact .refl s
  · exact .refl s

theorem checkLockedDoor_frame (d : Door) (v : Int) (s : State) : JobFrame s (checkLockedDoor d v s) := by
  unfold checkLockedDoor
  exact .ite (.refl s) (.ite (ventDoor_frame d s) (.ite (faultDoor_frame d s)
    ((closeWarned_frame d s).trans (countDoor_frame _ _ _))))

theorem setStatusUnknown_frame (d : Door) (b : Bool) (s : State) : JobFrame s (setStatusUnknown d b s) :=
  (putDoor_frame d _ s).trans (reportSource_frame _ _ _)

theorem dicStatus_frame (d : Door) (e : SigEvent) (s : State) : JobFrame s (dicStatus d e s) := by
  unfold dicStatus
  have h := setStatusUnknown_frame d false s
  exact .ite (setStatusUnknown_frame d true s) (.ite (.ite (.ite (h.trans (checkLockedDoor_frame d _ _))
    (h.trans (statusArrival_frame d _ _))) (statusArrival_frame d _ s)) (.refl s))

theorem tooFastDoor_frame (d : Door) (s : State) : JobFrame s (tooFastDoor d s) := by
  unfold tooFastDoor
  split
  · exact closeUnwarned_frame d s
  · exact closeWarned_frame d s
  · exact .refl s

theorem dicVsp_frame (e : SigEvent) (s : State) : JobFrame s (dicVsp e s) := by
  unfold dicVsp
  refine JobFrame.trans ?_ (evalGates_frame _)
  exact .ite ((evalEmergency_frame s).trans (forDoors_frame tooFastDoor_frame _)) (evalEmergency_frame s)

theorem releaseSpeedWritten_frame (s : State) : JobFrame s (releaseSpeedWritten s) := by
  unfold releaseSpeedWritten
  exact .ite ((evalGates_frame s).trans (forDoors_frame (fun d t => .ite (.refl t) (tooFastDoor_frame d t)) _))
    (evalGates_frame s)

theorem dicEvent_frame (e : SigEvent) (s : State) : JobFrame s (dicEvent e s) := by
  unfold dicEvent
  split
  · exact dicVsp_frame e s
  · exact evalGates_frame s
  · exact dicDrq_frame e s
  · split
    · exact dicStatus_frame _ e s
    · exact .refl s

theorem doorLockSatisfied_frame (d : Door) (s : State) : JobFrame s (doorLockSatisfied d s) := by
  unfold doorLockSatisfied
  exact .ite (lockDoor_frame d s) (.refl s)

theorem prepExpired_frame (d : Door) (s : State) : JobFrame s (prepExpired d s) := by
  unfold prepExpired
  exact .ite (.ite ((lockDoor_frame d s).trans (countDoor_frame _ _ _)) (putDoor_frame d _ s)) (.refl s)

theorem dwellExpired_frame (d : Door) (s : State) : JobFrame s (dwellExpired d s) := by
  unfold dwellExpired
  have h := putDoor_frame d { s.door d with dwell := .expired } s
  exact .ite (.ite (h.trans (closeWarned_frame d _)) h) (.refl s)

theorem warnExpired_frame (d : Door) (s : State) : JobFrame s (warnExpired d s) := by
  unfold warnExpired
  exact .ite (.ite (withdraw_frame d s) (putDoor_frame d _ s)) (.refl s)

/-! ### A signal event at every block -/

theorem satisfy_frame (k : ExpKey) (s : State) : JobFrame s (satisfy k s) := by
  unfold satisfy
  refine .ite (JobFrame.trans ((setCft_frame s (dropKey k s.cft)).trans
    (countKind_frame k (fun c => { c with satisfied := bump c.satisfied }) _)) ?_) (.refl s)
  cases k
  · exact doorLockSatisfied_frame _ _
  · exact stopBrakeSatisfied_frame _ _
  · exact stopBrakeSatisfied_frame _ _

theorem cftEvent_frame (e : SigEvent) (s : State) : JobFrame s (cftEvent e s) := by
  unfold cftEvent
  exact .ite (JobFrame.foldl (fun t k => blockEvent (satisfy k) t) (fun t k => blockEvent_frame (satisfy_frame k) t) _ s) (.refl s)

theorem ticEvent_frame (e : SigEvent) (s : State) : JobFrame s (ticEvent e s) := by
  unfold ticEvent
  exact .ite (reportSource_frame _ _ s) (.refl s)

theorem readerEvent_frame (r : Reader) (e : SigEvent) (s : State) : JobFrame s (readerEvent r e s) := by
  cases r
  · exact blockEvent_frame (rseEvent_frame e) s
  · exact blockEvent_frame (bduEvent_frame e) s
  · exact blockEvent_frame (rhcEvent_frame e) s
  · exact blockEvent_frame (dicEvent_frame e) s
  · exact ticEvent_frame e s
  · exact cftEvent_frame e s

theorem deliver_frame (e : SigEvent) (s : State) : JobFrame s (deliver e s) :=
  JobFrame.foldl (fun t r => readerEvent r e t) (fun t r => readerEvent_frame r e t) _ s

theorem paramEffect_frame (k : ParamId) (s : State) : JobFrame s (paramEffect k s) := by
  unfold paramEffect
  split
  case h_1 | h_2 => exact setRse_frame s _ rfl rfl
  case h_3 => exact setRse_frame s _ rfl rfl
  case h_4 | h_5 => exact evaluateJackknife_frame s
  case h_6 => exact evalGates_frame s
  case h_7 => exact formDemand_frame s
  case h_8 | h_9 | h_10 => exact formWeights_frame s
  case h_11 => exact evalPending_frame s
  case h_12 => exact evalEmergency_frame s
  case h_13 | h_14 => exact evalAir_frame s
  case h_15 =>
    exact JobFrame.trans (.ite ((evalFreeze_frame s).trans (cancelKneel_frame _)) (evalFreeze_frame s)) (evalKneelGate_frame _)
  case h_16 => exact evalKneelGate_frame s
  case h_17 => exact .ite (setTargets_frame s) (.refl s)
  case h_18 => exact .ite (highReturn_frame s) (.refl s)
  case h_19 => exact checkComplete_frame s
  case h_20 => exact releaseSpeedWritten_frame s
  case h_21 => exact reformCombined_frame s
  all_goals exact .refl s

/-! ### The signal monitor: its own state and counters besides -/

theorem setSgm_outside (s : State) (x : Sgm) : OutsideFrame s (s.setSgm x) :=
  ⟨rfl, rfl, rfl, rfl, rfl, rfl, rfl, rfl, rfl, ⟨rfl, rfl⟩, ⟨rfl, rfl⟩, rfl, rfl, rfl, rfl, rfl, rfl⟩

theorem countSgm_outside (s : State) (g : SgmCtr → SgmCtr) : OutsideFrame s (s.countSgm g) :=
  ⟨rfl, rfl, rfl, rfl, rfl, rfl, rfl, rfl, rfl, ⟨rfl, rfl⟩, ⟨rfl, rfl⟩, rfl, rfl, rfl, rfl, rfl, rfl⟩

theorem signalEvent_outside (g : Sig) (a w : Bool) (r : Reading) (s : State) : OutsideFrame s (signalEvent g a w r s) := by
  unfold signalEvent
  exact .ite (deliver_frame _ s).toOutsideFrame (.refl s)

theorem evalSelection_outside (g : Sig) (s : State) : OutsideFrame s (evalSelection g s) := by
  unfold evalSelection
  split
  · exact .refl s
  · exact .ite ((setSgm_outside s _).trans (countSgm_outside _ _)) (.refl s)

theorem evalDisagreement_outside (g : Sig) (s : State) : OutsideFrame s (evalDisagreement g s) := by
  unfold evalDisagreement
  split
  · exact .refl s
  · split
    · exact .refl s
    · exact .ite (.ite ((setSgm_outside s _).trans (countSgm_outside _ _)) (setSgm_outside s _)) (setSgm_outside s _)

theorem settleSignal_outside (g : Sig) (a : Bool) (b s : State) : OutsideFrame s (settleSignal g a b s) := by
  unfold settleSignal
  refine OutsideFrame.trans ?_ (signalEvent_outside _ _ _ _ _)
  exact .ite ((evalSelection_outside g s).trans (evalDisagreement_outside g _)) (evalSelection_outside g s)

theorem countSuspect_outside (c : Fin 48) (a b : ChanState) (s : State) : OutsideFrame s (countSuspect c a b s) := by
  unfold countSuspect
  exact .ite (countSgm_outside s _) (.refl s)

theorem applyArrival_outside (c : Fin 48) (ch : Channel) (f : Frame) (s : State) : OutsideFrame s (applyArrival c ch f s) :=
  (((setSgm_outside s _).trans (countSgm_outside _ _)).trans (countSuspect_outside c _ _ _)).trans
    (settleSignal_outside _ _ s _)

theorem tapChain_outside (f : Frame) (n : Nat) (c : Fin 48) (s : State) : OutsideFrame s (tapChain f n c s) := by
  induction n generalizing c s with
  | zero => exact .refl s
  | succ n ih =>
    unfold tapChain
    split
    · exact countSgm_outside s _
    · simp only
      split
      · exact applyArrival_outside ..
      · exact (applyArrival_outside ..).trans (ih ..)

theorem tapFrame_outside (c : Fin 48) (f : Frame) (s : State) : OutsideFrame s (tapFrame c f s) := tapChain_outside ..

theorem freshnessExpired_outside (c : Fin 48) (s : State) : OutsideFrame s (freshnessExpired c s) := by
  unfold freshnessExpired
  split
  · exact .refl s
  · exact .ite (.ite (((setSgm_outside s _).trans (countSuspect_outside ..)).trans (settleSignal_outside ..))
      (setSgm_outside s _)) (.refl s)

theorem staleExpired_outside (c : Fin 48) (s : State) : OutsideFrame s (staleExpired c s) := by
  unfold staleExpired
  split
  · exact .refl s
  · exact .ite (.ite (((setSgm_outside s _).trans (countSgm_outside _ _)).trans (settleSignal_outside ..))
      (setSgm_outside s _)) (.refl s)

theorem writeChannel_outside (c : Fin 48) (x : Option ChanCfg) (s : State) : OutsideFrame s (writeChannel c x s) := by
  unfold writeChannel
  refine OutsideFrame.trans ?_ (OutsideFrame.foldl _ (fun t g => ?_) Sig.all _)
  · exact setSgm_outside s _
  · exact .ite (settleSignal_outside g false s t) (.refl t)

theorem writeBinding_outside (g : Sig) (x : Option BindCfg) (s : State) : OutsideFrame s (writeBinding g x s) :=
  (setSgm_outside s _).trans (signalEvent_outside ..)

theorem unitResetSgm_outside (s : State) : OutsideFrame s (unitResetSgm s) := by
  unfold unitResetSgm
  exact (setSgm_outside s _).trans (OutsideFrame.foldl _ (fun t g => signalEvent_outside g false false (s.reading g) t) Sig.all _)

end Sys2Proof.Machine
end

