-- ==== Sys2Proof/WellFormed.lean ====
section
/-! DEFINITION. What makes a command well formed. Most operands are well formed by their type; a received frame must be a
frame as spec/00_scope.md, "Connections", describes one. -/

namespace Sys2Proof

/-- A frame has an 11-bit identifier when it is of base kind, and 0 to 64 bytes of payload. -/
def Frame.wellFormed (f : Frame) : Bool :=
  (f.kind == .extended || decide (f.ident.toNat < Config.baseIdents)) && decide (f.payload.length ≤ Config.maxPayload)

/-- Well-formedness of a command: the frame of FRAME_RECEPTION must be a frame; every other operand is so by its type. -/
def Instr.wellFormed : Instr → Bool
  | .frameReception _ f => f.wellFormed
  | .coldReset | .frameClassification _ | .transmissionEnd _ _ | .recoveryTimerExpiry _ | .slotArrival
  | .freshnessTimerExpiry _ | .staleTimerExpiry _ | .wakeTimerExpiry _ | .kneelTimerExpiry | .raiseTimerExpiry
  | .prepTimerExpiry _ | .dwellTimerExpiry _ | .warnTimerExpiry _ | .deadlineExpiry _ | .releaseGapExpiry
  | .identify _ | .modeRequest _ _ | .paramRead _ _ | .paramWrite _ _ _ | .tableOpen _ _ _ | .tableWrite _ _
  | .tableRead _ | .tableClose _ | .profileSelect _ _ _ | .stateRead _ _ _ | .snapshot _ | .counterRead _ _ _
  | .counterClear _ _ | .faultClearRse _ | .faultClearRhc _ | .inhibitSet _ | .inhibitClear _ | .restart _
  | .unitResetRse _ | .unitResetRhc _ | .unitResetSgm _ | .unitResetTxs _ => true

end Sys2Proof
end

