-- ==== Sys2Proof/Laws/PerInstr.lean ====
section
/-! SUPPORT. Two facts about every command as syntax, one lemma per constructor: only the frame of FRAME_RECEPTION can be ill
formed, and the bytes that R207 gives a request have the length that R207 gives its code. -/

namespace Sys2Proof.Laws

set_option Elab.async false

open Sys2Proof.Machine Sys2Proof.Safety

/-- A command is well formed, or is the reception of a frame that is not one. -/
def OnlyFramesIllFormed.Statement (i : Instr) : Prop :=
  i.wellFormed = true ∨ ∃ p f, i = .frameReception p f ∧ f.wellFormed = false

/-- A command that is a request has a payload of the length its code names, code and tag at its head. -/
def RequestLength.Statement (i : Instr) : Prop :=
  ∀ p, requestBytes i = some p → 2 ≤ p.length ∧ requestLength (byteAt p 0) = some p.length

theorem OnlyFramesIllFormed.coldReset : OnlyFramesIllFormed.Statement (.coldReset) := .inl rfl
theorem OnlyFramesIllFormed.frameReception (p : PortId) (f : Frame) : OnlyFramesIllFormed.Statement (.frameReception p f) := by
  cases h : f.wellFormed
  · exact .inr ⟨p, f, rfl, h⟩
  · exact .inl h
theorem OnlyFramesIllFormed.frameClassification (p : PortId) : OnlyFramesIllFormed.Statement (.frameClassification p) := .inl rfl
theorem OnlyFramesIllFormed.transmissionEnd (p : PortId) (o : TxOutcome) : OnlyFramesIllFormed.Statement (.transmissionEnd p o) := .inl rfl
theorem OnlyFramesIllFormed.recoveryTimerExpiry (p : PortId) : OnlyFramesIllFormed.Statement (.recoveryTimerExpiry p) := .inl rfl
theorem OnlyFramesIllFormed.slotArrival : OnlyFramesIllFormed.Statement (.slotArrival) := .inl rfl
theorem OnlyFramesIllFormed.freshnessTimerExpiry (c : Fin 48) : OnlyFramesIllFormed.Statement (.freshnessTimerExpiry c) := .inl rfl
theorem OnlyFramesIllFormed.staleTimerExpiry (c : Fin 48) : OnlyFramesIllFormed.Statement (.staleTimerExpiry c) := .inl rfl
theorem OnlyFramesIllFormed.wakeTimerExpiry (k : Corner) : OnlyFramesIllFormed.Statement (.wakeTimerExpiry k) := .inl rfl
theorem OnlyFramesIllFormed.kneelTimerExpiry : OnlyFramesIllFormed.Statement (.kneelTimerExpiry) := .inl rfl
theorem OnlyFramesIllFormed.raiseTimerExpiry : OnlyFramesIllFormed.Statement (.raiseTimerExpiry) := .inl rfl
theorem OnlyFramesIllFormed.prepTimerExpiry (d : Door) : OnlyFramesIllFormed.Statement (.prepTimerExpiry d) := .inl rfl
theorem OnlyFramesIllFormed.dwellTimerExpiry (d : Door) : OnlyFramesIllFormed.Statement (.dwellTimerExpiry d) := .inl rfl
theorem OnlyFramesIllFormed.warnTimerExpiry (d : Door) : OnlyFramesIllFormed.Statement (.warnTimerExpiry d) := .inl rfl
theorem OnlyFramesIllFormed.deadlineExpiry (k : ExpKey) : OnlyFramesIllFormed.Statement (.deadlineExpiry k) := .inl rfl
theorem OnlyFramesIllFormed.releaseGapExpiry : OnlyFramesIllFormed.Statement (.releaseGapExpiry) := .inl rfl
theorem OnlyFramesIllFormed.identify (tag : Byte) : OnlyFramesIllFormed.Statement (.identify tag) := .inl rfl
theorem OnlyFramesIllFormed.modeRequest (tag : Byte) (mode : Byte) : OnlyFramesIllFormed.Statement (.modeRequest tag mode) := .inl rfl
theorem OnlyFramesIllFormed.paramRead (tag : Byte) (number : BitVec 16) : OnlyFramesIllFormed.Statement (.paramRead tag number) := .inl rfl
theorem OnlyFramesIllFormed.paramWrite (tag : Byte) (number : BitVec 16) (value : BitVec 32) : OnlyFramesIllFormed.Statement (.paramWrite tag number value) := .inl rfl
theorem OnlyFramesIllFormed.tableOpen (tag : Byte) (table : Byte) (index : BitVec 16) : OnlyFramesIllFormed.Statement (.tableOpen tag table index) := .inl rfl
theorem OnlyFramesIllFormed.tableWrite (tag : Byte) (record : Vector Byte 16) : OnlyFramesIllFormed.Statement (.tableWrite tag record) := .inl rfl
theorem OnlyFramesIllFormed.tableRead (tag : Byte) : OnlyFramesIllFormed.Statement (.tableRead tag) := .inl rfl
theorem OnlyFramesIllFormed.tableClose (tag : Byte) : OnlyFramesIllFormed.Statement (.tableClose tag) := .inl rfl
theorem OnlyFramesIllFormed.profileSelect (tag : Byte) (profile : Byte) (step : Byte) : OnlyFramesIllFormed.Statement (.profileSelect tag profile step) := .inl rfl
theorem OnlyFramesIllFormed.stateRead (tag : Byte) (unit : Byte) (page : Byte) : OnlyFramesIllFormed.Statement (.stateRead tag unit page) := .inl rfl
theorem OnlyFramesIllFormed.snapshot (tag : Byte) : OnlyFramesIllFormed.Statement (.snapshot tag) := .inl rfl
theorem OnlyFramesIllFormed.counterRead (tag : Byte) (group : Byte) (first : BitVec 16) : OnlyFramesIllFormed.Statement (.counterRead tag group first) := .inl rfl
theorem OnlyFramesIllFormed.counterClear (tag : Byte) (group : Byte) : OnlyFramesIllFormed.Statement (.counterClear tag group) := .inl rfl
theorem OnlyFramesIllFormed.faultClearRse (tag : Byte) : OnlyFramesIllFormed.Statement (.faultClearRse tag) := .inl rfl
theorem OnlyFramesIllFormed.faultClearRhc (tag : Byte) : OnlyFramesIllFormed.Statement (.faultClearRhc tag) := .inl rfl
theorem OnlyFramesIllFormed.inhibitSet (tag : Byte) : OnlyFramesIllFormed.Statement (.inhibitSet tag) := .inl rfl
theorem OnlyFramesIllFormed.inhibitClear (tag : Byte) : OnlyFramesIllFormed.Statement (.inhibitClear tag) := .inl rfl
theorem OnlyFramesIllFormed.restart (tag : Byte) : OnlyFramesIllFormed.Statement (.restart tag) := .inl rfl
theorem OnlyFramesIllFormed.unitResetRse (tag : Byte) : OnlyFramesIllFormed.Statement (.unitResetRse tag) := .inl rfl
theorem OnlyFramesIllFormed.unitResetRhc (tag : Byte) : OnlyFramesIllFormed.Statement (.unitResetRhc tag) := .inl rfl
theorem OnlyFramesIllFormed.unitResetSgm (tag : Byte) : OnlyFramesIllFormed.Statement (.unitResetSgm tag) := .inl rfl
theorem OnlyFramesIllFormed.unitResetTxs (tag : Byte) : OnlyFramesIllFormed.Statement (.unitResetTxs tag) := .inl rfl

theorem RequestLength.coldReset : RequestLength.Statement (.coldReset) := by
  intro p h; cases h
theorem RequestLength.frameReception (p : PortId) (f : Frame) : RequestLength.Statement (.frameReception p f) := by
  intro p h; cases h
theorem RequestLength.frameClassification (p : PortId) : RequestLength.Statement (.frameClassification p) := by
  intro p h; cases h
theorem RequestLength.transmissionEnd (p : PortId) (o : TxOutcome) : RequestLength.Statement (.transmissionEnd p o) := by
  intro p h; cases h
theorem RequestLength.recoveryTimerExpiry (p : PortId) : RequestLength.Statement (.recoveryTimerExpiry p) := by
  intro p h; cases h
theorem RequestLength.slotArrival : RequestLength.Statement (.slotArrival) := by
  intro p h; cases h
theorem RequestLength.freshnessTimerExpiry (c : Fin 48) : RequestLength.Statement (.freshnessTimerExpiry c) := by
  intro p h; cases h
theorem RequestLength.staleTimerExpiry (c : Fin 48) : RequestLength.Statement (.staleTimerExpiry c) := by
  intro p h; cases h
theorem RequestLength.wakeTimerExpiry (k : Corner) : RequestLength.Statement (.wakeTimerExpiry k) := by
  intro p h; cases h
theorem RequestLength.kneelTimerExpiry : RequestLength.Statement (.kneelTimerExpiry) := by
  intro p h; cases h
theorem RequestLength.raiseTimerExpiry : RequestLength.Statement (.raiseTimerExpiry) := by
  intro p h; cases h
theorem RequestLength.prepTimerExpiry (d : Door) : RequestLength.Statement (.prepTimerExpiry d) := by
  intro p h; cases h
theorem RequestLength.dwellTimerExpiry (d : Door) : RequestLength.Statement (.dwellTimerExpiry d) := by
  intro p h; cases h
theorem RequestLength.warnTimerExpiry (d : Door) : RequestLength.Statement (.warnTimerExpiry d) := by
  intro p h; cases h
theorem RequestLength.deadlineExpiry (k : ExpKey) : RequestLength.Statement (.deadlineExpiry k) := by
  intro p h; cases h
theorem RequestLength.releaseGapExpiry : RequestLength.Statement (.releaseGapExpiry) := by
  intro p h; cases h
theorem RequestLength.identify (tag : Byte) : RequestLength.Statement (.identify tag) := by
  intro p h; cases h; simp [requestLength, byteAt]
theorem RequestLength.modeRequest (tag : Byte) (mode : Byte) : RequestLength.Statement (.modeRequest tag mode) := by
  intro p h; cases h; simp [requestLength, byteAt]
theorem RequestLength.paramRead (tag : Byte) (number : BitVec 16) : RequestLength.Statement (.paramRead tag number) := by
  intro p h; cases h; simp [requestLength, byteAt, b2]
theorem RequestLength.paramWrite (tag : Byte) (number : BitVec 16) (value : BitVec 32) : RequestLength.Statement (.paramWrite tag number value) := by
  intro p h; cases h; simp [requestLength, byteAt, b2, b4]
theorem RequestLength.tableOpen (tag : Byte) (table : Byte) (index : BitVec 16) : RequestLength.Statement (.tableOpen tag table index) := by
  intro p h; cases h; simp [requestLength, byteAt, b2]
theorem RequestLength.tableWrite (tag : Byte) (record : Vector Byte 16) : RequestLength.Statement (.tableWrite tag record) := by
  intro p h; cases h; simp [requestLength, byteAt]
theorem RequestLength.tableRead (tag : Byte) : RequestLength.Statement (.tableRead tag) := by
  intro p h; cases h; simp [requestLength, byteAt]
theorem RequestLength.tableClose (tag : Byte) : RequestLength.Statement (.tableClose tag) := by
  intro p h; cases h; simp [requestLength, byteAt]
theorem RequestLength.profileSelect (tag : Byte) (profile : Byte) (step : Byte) : RequestLength.Statement (.profileSelect tag profile step) := by
  intro p h; cases h; simp [requestLength, byteAt]
theorem RequestLength.stateRead (tag : Byte) (unit : Byte) (page : Byte) : RequestLength.Statement (.stateRead tag unit page) := by
  intro p h; cases h; simp [requestLength, byteAt]
theorem RequestLength.snapshot (tag : Byte) : RequestLength.Statement (.snapshot tag) := by
  intro p h; cases h; simp [requestLength, byteAt]
theorem RequestLength.counterRead (tag : Byte) (group : Byte) (first : BitVec 16) : RequestLength.Statement (.counterRead tag group first) := by
  intro p h; cases h; simp [requestLength, byteAt, b2]
theorem RequestLength.counterClear (tag : Byte) (group : Byte) : RequestLength.Statement (.counterClear tag group) := by
  intro p h; cases h; simp [requestLength, byteAt]
theorem RequestLength.faultClearRse (tag : Byte) : RequestLength.Statement (.faultClearRse tag) := by
  intro p h; cases h; simp [requestLength, byteAt]
theorem RequestLength.faultClearRhc (tag : Byte) : RequestLength.Statement (.faultClearRhc tag) := by
  intro p h; cases h; simp [requestLength, byteAt]
theorem RequestLength.inhibitSet (tag : Byte) : RequestLength.Statement (.inhibitSet tag) := by
  intro p h; cases h; simp [requestLength, byteAt]
theorem RequestLength.inhibitClear (tag : Byte) : RequestLength.Statement (.inhibitClear tag) := by
  intro p h; cases h; simp [requestLength, byteAt]
theorem RequestLength.restart (tag : Byte) : RequestLength.Statement (.restart tag) := by
  intro p h; cases h; simp [requestLength, byteAt]
theorem RequestLength.unitResetRse (tag : Byte) : RequestLength.Statement (.unitResetRse tag) := by
  intro p h; cases h; simp [requestLength, byteAt]
theorem RequestLength.unitResetRhc (tag : Byte) : RequestLength.Statement (.unitResetRhc tag) := by
  intro p h; cases h; simp [requestLength, byteAt]
theorem RequestLength.unitResetSgm (tag : Byte) : RequestLength.Statement (.unitResetSgm tag) := by
  intro p h; cases h; simp [requestLength, byteAt]
theorem RequestLength.unitResetTxs (tag : Byte) : RequestLength.Statement (.unitResetTxs tag) := by
  intro p h; cases h; simp [requestLength, byteAt]

end Sys2Proof.Laws
end

