-- ==== Sys2Proof/Laws/Shared.lean ====
section
/-! SUPPORT. What the operations that several blocks share can do, said once for each: which parts of the state they leave alone,
and what they make of the part they change. -/

namespace Sys2Proof.Machine

set_option Elab.async false

open Sys2Proof.Safety

/-! ### The combiner -/

/-! `reformCombined` changes `tic`, `lines`, `ctr` and nothing else. -/

@[simp] theorem reformCombined_pending (s : State) : (reformCombined s).pending = s.pending := by
  unfold reformCombined State.enterPermitted State.enterCombined; split <;> (try split) <;> rfl
@[simp] theorem reformCombined_now (s : State) : (reformCombined s).now = s.now := by
  unfold reformCombined State.enterPermitted State.enterCombined; split <;> (try split) <;> rfl
@[simp] theorem reformCombined_readerPref (s : State) : (reformCombined s).readerPref = s.readerPref := by
  unfold reformCombined State.enterPermitted State.enterCombined; split <;> (try split) <;> rfl
@[simp] theorem reformCombined_mode (s : State) : (reformCombined s).mode = s.mode := by
  unfold reformCombined State.enterPermitted State.enterCombined; split <;> (try split) <;> rfl
@[simp] theorem reformCombined_params (s : State) : (reformCombined s).params = s.params := by
  unfold reformCombined State.enterPermitted State.enterCombined; split <;> (try split) <;> rfl
@[simp] theorem reformCombined_sgm (s : State) : (reformCombined s).sgm = s.sgm := by
  unfold reformCombined State.enterPermitted State.enterCombined; split <;> (try split) <;> rfl
@[simp] theorem reformCombined_rse (s : State) : (reformCombined s).rse = s.rse := by
  unfold reformCombined State.enterPermitted State.enterCombined; split <;> (try split) <;> rfl
@[simp] theorem reformCombined_bdu (s : State) : (reformCombined s).bdu = s.bdu := by
  unfold reformCombined State.enterPermitted State.enterCombined; split <;> (try split) <;> rfl
@[simp] theorem reformCombined_rhc (s : State) : (reformCombined s).rhc = s.rhc := by
  unfold reformCombined State.enterPermitted State.enterCombined; split <;> (try split) <;> rfl
@[simp] theorem reformCombined_dic (s : State) : (reformCombined s).dic = s.dic := by
  unfold reformCombined State.enterPermitted State.enterCombined; split <;> (try split) <;> rfl
@[simp] theorem reformCombined_cft (s : State) : (reformCombined s).cft = s.cft := by
  unfold reformCombined State.enterPermitted State.enterCombined; split <;> (try split) <;> rfl
@[simp] theorem reformCombined_ports (s : State) : (reformCombined s).ports = s.ports := by
  unfold reformCombined State.enterPermitted State.enterCombined; split <;> (try split) <;> rfl
@[simp] theorem reformCombined_urgent (s : State) : (reformCombined s).urgent = s.urgent := by
  unfold reformCombined State.enterPermitted State.enterCombined; split <;> (try split) <;> rfl
@[simp] theorem reformCombined_routes (s : State) : (reformCombined s).routes = s.routes := by
  unfold reformCombined State.enterPermitted State.enterCombined; split <;> (try split) <;> rfl
@[simp] theorem reformCombined_txs (s : State) : (reformCombined s).txs = s.txs := by
  unfold reformCombined State.enterPermitted State.enterCombined; split <;> (try split) <;> rfl
@[simp] theorem reformCombined_svr (s : State) : (reformCombined s).svr = s.svr := by
  unfold reformCombined State.enterPermitted State.enterCombined; split <;> (try split) <;> rfl

/-! `changeSource` changes `tic`, `ctr` and nothing else. -/

@[simp] theorem changeSource_pending (k : Source) (b : Bool) (s : State) : (changeSource k b s).pending = s.pending := by
  unfold changeSource; split <;> rfl
@[simp] theorem changeSource_now (k : Source) (b : Bool) (s : State) : (changeSource k b s).now = s.now := by
  unfold changeSource; split <;> rfl
@[simp] theorem changeSource_readerPref (k : Source) (b : Bool) (s : State) : (changeSource k b s).readerPref = s.readerPref := by
  unfold changeSource; split <;> rfl
@[simp] theorem changeSource_mode (k : Source) (b : Bool) (s : State) : (changeSource k b s).mode = s.mode := by
  unfold changeSource; split <;> rfl
@[simp] theorem changeSource_params (k : Source) (b : Bool) (s : State) : (changeSource k b s).params = s.params := by
  unfold changeSource; split <;> rfl
@[simp] theorem changeSource_sgm (k : Source) (b : Bool) (s : State) : (changeSource k b s).sgm = s.sgm := by
  unfold changeSource; split <;> rfl
@[simp] theorem changeSource_rse (k : Source) (b : Bool) (s : State) : (changeSource k b s).rse = s.rse := by
  unfold changeSource; split <;> rfl
@[simp] theorem changeSource_bdu (k : Source) (b : Bool) (s : State) : (changeSource k b s).bdu = s.bdu := by
  unfold changeSource; split <;> rfl
@[simp] theorem changeSource_rhc (k : Source) (b : Bool) (s : State) : (changeSource k b s).rhc = s.rhc := by
  unfold changeSource; split <;> rfl
@[simp] theorem changeSource_dic (k : Source) (b : Bool) (s : State) : (changeSource k b s).dic = s.dic := by
  unfold changeSource; split <;> rfl
@[simp] theorem changeSource_cft (k : Source) (b : Bool) (s : State) : (changeSource k b s).cft = s.cft := by
  unfold changeSource; split <;> rfl
@[simp] theorem changeSource_ports (k : Source) (b : Bool) (s : State) : (changeSource k b s).ports = s.ports := by
  unfold changeSource; split <;> rfl
@[simp] theorem changeSource_urgent (k : Source) (b : Bool) (s : State) : (changeSource k b s).urgent = s.urgent := by
  unfold changeSource; split <;> rfl
@[simp] theorem changeSource_routes (k : Source) (b : Bool) (s : State) : (changeSource k b s).routes = s.routes := by
  unfold changeSource; split <;> rfl
@[simp] theorem changeSource_txs (k : Source) (b : Bool) (s : State) : (changeSource k b s).txs = s.txs := by
  unfold changeSource; split <;> rfl
@[simp] theorem changeSource_svr (k : Source) (b : Bool) (s : State) : (changeSource k b s).svr = s.svr := by
  unfold changeSource; split <;> rfl
@[simp] theorem changeSource_lines (k : Source) (b : Bool) (s : State) : (changeSource k b s).lines = s.lines := by
  unfold changeSource; split <;> rfl

/-! `reportSource` changes `tic`, `lines`, `ctr` and nothing else. -/

@[simp] theorem reportSource_pending (k : Source) (b : Bool) (s : State) : (reportSource k b s).pending = s.pending := by
  unfold reportSource; split <;> simp
@[simp] theorem reportSource_now (k : Source) (b : Bool) (s : State) : (reportSource k b s).now = s.now := by
  unfold reportSource; split <;> simp
@[simp] theorem reportSource_readerPref (k : Source) (b : Bool) (s : State) : (reportSource k b s).readerPref = s.readerPref := by
  unfold reportSource; split <;> simp
@[simp] theorem reportSource_mode (k : Source) (b : Bool) (s : State) : (reportSource k b s).mode = s.mode := by
  unfold reportSource; split <;> simp
@[simp] theorem reportSource_params (k : Source) (b : Bool) (s : State) : (reportSource k b s).params = s.params := by
  unfold reportSource; split <;> simp
@[simp] theorem reportSource_sgm (k : Source) (b : Bool) (s : State) : (reportSource k b s).sgm = s.sgm := by
  unfold reportSource; split <;> simp
@[simp] theorem reportSource_rse (k : Source) (b : Bool) (s : State) : (reportSource k b s).rse = s.rse := by
  unfold reportSource; split <;> simp
@[simp] theorem reportSource_bdu (k : Source) (b : Bool) (s : State) : (reportSource k b s).bdu = s.bdu := by
  unfold reportSource; split <;> simp
@[simp] theorem reportSource_rhc (k : Source) (b : Bool) (s : State) : (reportSource k b s).rhc = s.rhc := by
  unfold reportSource; split <;> simp
@[simp] theorem reportSource_dic (k : Source) (b : Bool) (s : State) : (reportSource k b s).dic = s.dic := by
  unfold reportSource; split <;> simp
@[simp] theorem reportSource_cft (k : Source) (b : Bool) (s : State) : (reportSource k b s).cft = s.cft := by
  unfold reportSource; split <;> simp
@[simp] theorem reportSource_ports (k : Source) (b : Bool) (s : State) : (reportSource k b s).ports = s.ports := by
  unfold reportSource; split <;> simp
@[simp] theorem reportSource_urgent (k : Source) (b : Bool) (s : State) : (reportSource k b s).urgent = s.urgent := by
  unfold reportSource; split <;> simp
@[simp] theorem reportSource_routes (k : Source) (b : Bool) (s : State) : (reportSource k b s).routes = s.routes := by
  unfold reportSource; split <;> simp
@[simp] theorem reportSource_txs (k : Source) (b : Bool) (s : State) : (reportSource k b s).txs = s.txs := by
  unfold reportSource; split <;> simp
@[simp] theorem reportSource_svr (k : Source) (b : Bool) (s : State) : (reportSource k b s).svr = s.svr := by
  unfold reportSource; split <;> simp

/-! ### The hold-reason set and the stop brake -/

/-! `setHold` changes `rse` and nothing else. -/

@[simp] theorem setHold_pending (k : HoldReason) (b : Bool) (s : State) : (setHold k b s).pending = s.pending := by
  rfl
@[simp] theorem setHold_now (k : HoldReason) (b : Bool) (s : State) : (setHold k b s).now = s.now := by
  rfl
@[simp] theorem setHold_readerPref (k : HoldReason) (b : Bool) (s : State) : (setHold k b s).readerPref = s.readerPref := by
  rfl
@[simp] theorem setHold_mode (k : HoldReason) (b : Bool) (s : State) : (setHold k b s).mode = s.mode := by
  rfl
@[simp] theorem setHold_params (k : HoldReason) (b : Bool) (s : State) : (setHold k b s).params = s.params := by
  rfl
@[simp] theorem setHold_sgm (k : HoldReason) (b : Bool) (s : State) : (setHold k b s).sgm = s.sgm := by
  rfl
@[simp] theorem setHold_bdu (k : HoldReason) (b : Bool) (s : State) : (setHold k b s).bdu = s.bdu := by
  rfl
@[simp] theorem setHold_rhc (k : HoldReason) (b : Bool) (s : State) : (setHold k b s).rhc = s.rhc := by
  rfl
@[simp] theorem setHold_dic (k : HoldReason) (b : Bool) (s : State) : (setHold k b s).dic = s.dic := by
  rfl
@[simp] theorem setHold_cft (k : HoldReason) (b : Bool) (s : State) : (setHold k b s).cft = s.cft := by
  rfl
@[simp] theorem setHold_tic (k : HoldReason) (b : Bool) (s : State) : (setHold k b s).tic = s.tic := by
  rfl
@[simp] theorem setHold_ports (k : HoldReason) (b : Bool) (s : State) : (setHold k b s).ports = s.ports := by
  rfl
@[simp] theorem setHold_urgent (k : HoldReason) (b : Bool) (s : State) : (setHold k b s).urgent = s.urgent := by
  rfl
@[simp] theorem setHold_routes (k : HoldReason) (b : Bool) (s : State) : (setHold k b s).routes = s.routes := by
  rfl
@[simp] theorem setHold_txs (k : HoldReason) (b : Bool) (s : State) : (setHold k b s).txs = s.txs := by
  rfl
@[simp] theorem setHold_svr (k : HoldReason) (b : Bool) (s : State) : (setHold k b s).svr = s.svr := by
  rfl
@[simp] theorem setHold_ctr (k : HoldReason) (b : Bool) (s : State) : (setHold k b s).ctr = s.ctr := by
  rfl
@[simp] theorem setHold_lines (k : HoldReason) (b : Bool) (s : State) : (setHold k b s).lines = s.lines := by
  rfl

/-! `setStopBrake` changes `bdu`, `lines`, `tic`, `ctr` and nothing else. -/

@[simp] theorem setStopBrake_pending (b : StopBrake) (s : State) : (setStopBrake b s).pending = s.pending := by
  unfold setStopBrake; simp
@[simp] theorem setStopBrake_now (b : StopBrake) (s : State) : (setStopBrake b s).now = s.now := by
  unfold setStopBrake; simp
@[simp] theorem setStopBrake_readerPref (b : StopBrake) (s : State) : (setStopBrake b s).readerPref = s.readerPref := by
  unfold setStopBrake; simp
@[simp] theorem setStopBrake_mode (b : StopBrake) (s : State) : (setStopBrake b s).mode = s.mode := by
  unfold setStopBrake; simp
@[simp] theorem setStopBrake_params (b : StopBrake) (s : State) : (setStopBrake b s).params = s.params := by
  unfold setStopBrake; simp
@[simp] theorem setStopBrake_sgm (b : StopBrake) (s : State) : (setStopBrake b s).sgm = s.sgm := by
  unfold setStopBrake; simp
@[simp] theorem setStopBrake_rse (b : StopBrake) (s : State) : (setStopBrake b s).rse = s.rse := by
  unfold setStopBrake; simp
@[simp] theorem setStopBrake_rhc (b : StopBrake) (s : State) : (setStopBrake b s).rhc = s.rhc := by
  unfold setStopBrake; simp
@[simp] theorem setStopBrake_dic (b : StopBrake) (s : State) : (setStopBrake b s).dic = s.dic := by
  unfold setStopBrake; simp
@[simp] theorem setStopBrake_cft (b : StopBrake) (s : State) : (setStopBrake b s).cft = s.cft := by
  unfold setStopBrake; simp
@[simp] theorem setStopBrake_ports (b : StopBrake) (s : State) : (setStopBrake b s).ports = s.ports := by
  unfold setStopBrake; simp
@[simp] theorem setStopBrake_urgent (b : StopBrake) (s : State) : (setStopBrake b s).urgent = s.urgent := by
  unfold setStopBrake; simp
@[simp] theorem setStopBrake_routes (b : StopBrake) (s : State) : (setStopBrake b s).routes = s.routes := by
  unfold setStopBrake; simp
@[simp] theorem setStopBrake_txs (b : StopBrake) (s : State) : (setStopBrake b s).txs = s.txs := by
  unfold setStopBrake; simp
@[simp] theorem setStopBrake_svr (b : StopBrake) (s : State) : (setStopBrake b s).svr = s.svr := by
  unfold setStopBrake; simp

@[simp] theorem setStopBrake_bdu (b : StopBrake) (s : State) : (setStopBrake b s).bdu = { s.bdu with stopBrake := b } := by
  unfold setStopBrake; simp

/-! ### The reports of the tracker -/

/-! `doorLockFailed` changes `dic`, `ctr` and nothing else. -/

@[simp] theorem doorLockFailed_pending (d : Door) (s : State) : (doorLockFailed d s).pending = s.pending := by
  unfold doorLockFailed; split <;> rfl
@[simp] theorem doorLockFailed_now (d : Door) (s : State) : (doorLockFailed d s).now = s.now := by
  unfold doorLockFailed; split <;> rfl
@[simp] theorem doorLockFailed_readerPref (d : Door) (s : State) : (doorLockFailed d s).readerPref = s.readerPref := by
  unfold doorLockFailed; split <;> rfl
@[simp] theorem doorLockFailed_mode (d : Door) (s : State) : (doorLockFailed d s).mode = s.mode := by
  unfold doorLockFailed; split <;> rfl
@[simp] theorem doorLockFailed_params (d : Door) (s : State) : (doorLockFailed d s).params = s.params := by
  unfold doorLockFailed; split <;> rfl
@[simp] theorem doorLockFailed_sgm (d : Door) (s : State) : (doorLockFailed d s).sgm = s.sgm := by
  unfold doorLockFailed; split <;> rfl
@[simp] theorem doorLockFailed_rse (d : Door) (s : State) : (doorLockFailed d s).rse = s.rse := by
  unfold doorLockFailed; split <;> rfl
@[simp] theorem doorLockFailed_bdu (d : Door) (s : State) : (doorLockFailed d s).bdu = s.bdu := by
  unfold doorLockFailed; split <;> rfl
@[simp] theorem doorLockFailed_rhc (d : Door) (s : State) : (doorLockFailed d s).rhc = s.rhc := by
  unfold doorLockFailed; split <;> rfl
@[simp] theorem doorLockFailed_cft (d : Door) (s : State) : (doorLockFailed d s).cft = s.cft := by
  unfold doorLockFailed; split <;> rfl
@[simp] theorem doorLockFailed_tic (d : Door) (s : State) : (doorLockFailed d s).tic = s.tic := by
  unfold doorLockFailed; split <;> rfl
@[simp] theorem doorLockFailed_ports (d : Door) (s : State) : (doorLockFailed d s).ports = s.ports := by
  unfold doorLockFailed; split <;> rfl
@[simp] theorem doorLockFailed_urgent (d : Door) (s : State) : (doorLockFailed d s).urgent = s.urgent := by
  unfold doorLockFailed; split <;> rfl
@[simp] theorem doorLockFailed_routes (d : Door) (s : State) : (doorLockFailed d s).routes = s.routes := by
  unfold doorLockFailed; split <;> rfl
@[simp] theorem doorLockFailed_txs (d : Door) (s : State) : (doorLockFailed d s).txs = s.txs := by
  unfold doorLockFailed; split <;> rfl
@[simp] theorem doorLockFailed_svr (d : Door) (s : State) : (doorLockFailed d s).svr = s.svr := by
  unfold doorLockFailed; split <;> rfl
@[simp] theorem doorLockFailed_lines (d : Door) (s : State) : (doorLockFailed d s).lines = s.lines := by
  unfold doorLockFailed; split <;> rfl

/-! `stopBrakeFailed` changes `bdu`, `lines`, `tic`, `ctr` and nothing else. -/

@[simp] theorem stopBrakeFailed_pending (k : ExpKey) (s : State) : (stopBrakeFailed k s).pending = s.pending := by
  unfold stopBrakeFailed; split <;> simp
@[simp] theorem stopBrakeFailed_now (k : ExpKey) (s : State) : (stopBrakeFailed k s).now = s.now := by
  unfold stopBrakeFailed; split <;> simp
@[simp] theorem stopBrakeFailed_readerPref (k : ExpKey) (s : State) : (stopBrakeFailed k s).readerPref = s.readerPref := by
  unfold stopBrakeFailed; split <;> simp
@[simp] theorem stopBrakeFailed_mode (k : ExpKey) (s : State) : (stopBrakeFailed k s).mode = s.mode := by
  unfold stopBrakeFailed; split <;> simp
@[simp] theorem stopBrakeFailed_params (k : ExpKey) (s : State) : (stopBrakeFailed k s).params = s.params := by
  unfold stopBrakeFailed; split <;> simp
@[simp] theorem stopBrakeFailed_sgm (k : ExpKey) (s : State) : (stopBrakeFailed k s).sgm = s.sgm := by
  unfold stopBrakeFailed; split <;> simp
@[simp] theorem stopBrakeFailed_rse (k : ExpKey) (s : State) : (stopBrakeFailed k s).rse = s.rse := by
  unfold stopBrakeFailed; split <;> simp
@[simp] theorem stopBrakeFailed_rhc (k : ExpKey) (s : State) : (stopBrakeFailed k s).rhc = s.rhc := by
  unfold stopBrakeFailed; split <;> simp
@[simp] theorem stopBrakeFailed_dic (k : ExpKey) (s : State) : (stopBrakeFailed k s).dic = s.dic := by
  unfold stopBrakeFailed; split <;> simp
@[simp] theorem stopBrakeFailed_cft (k : ExpKey) (s : State) : (stopBrakeFailed k s).cft = s.cft := by
  unfold stopBrakeFailed; split <;> simp
@[simp] theorem stopBrakeFailed_ports (k : ExpKey) (s : State) : (stopBrakeFailed k s).ports = s.ports := by
  unfold stopBrakeFailed; split <;> simp
@[simp] theorem stopBrakeFailed_urgent (k : ExpKey) (s : State) : (stopBrakeFailed k s).urgent = s.urgent := by
  unfold stopBrakeFailed; split <;> simp
@[simp] theorem stopBrakeFailed_routes (k : ExpKey) (s : State) : (stopBrakeFailed k s).routes = s.routes := by
  unfold stopBrakeFailed; split <;> simp
@[simp] theorem stopBrakeFailed_txs (k : ExpKey) (s : State) : (stopBrakeFailed k s).txs = s.txs := by
  unfold stopBrakeFailed; split <;> simp
@[simp] theorem stopBrakeFailed_svr (k : ExpKey) (s : State) : (stopBrakeFailed k s).svr = s.svr := by
  unfold stopBrakeFailed; split <;> simp

/-! `reportFailed` changes `dic`, `bdu`, `lines`, `tic`, `ctr` and nothing else. -/

@[simp] theorem reportFailed_pending (k : ExpKey) (s : State) : (reportFailed k s).pending = s.pending := by
  unfold reportFailed; split <;> simp
@[simp] theorem reportFailed_now (k : ExpKey) (s : State) : (reportFailed k s).now = s.now := by
  unfold reportFailed; split <;> simp
@[simp] theorem reportFailed_readerPref (k : ExpKey) (s : State) : (reportFailed k s).readerPref = s.readerPref := by
  unfold reportFailed; split <;> simp
@[simp] theorem reportFailed_mode (k : ExpKey) (s : State) : (reportFailed k s).mode = s.mode := by
  unfold reportFailed; split <;> simp
@[simp] theorem reportFailed_params (k : ExpKey) (s : State) : (reportFailed k s).params = s.params := by
  unfold reportFailed; split <;> simp
@[simp] theorem reportFailed_sgm (k : ExpKey) (s : State) : (reportFailed k s).sgm = s.sgm := by
  unfold reportFailed; split <;> simp
@[simp] theorem reportFailed_rse (k : ExpKey) (s : State) : (reportFailed k s).rse = s.rse := by
  unfold reportFailed; split <;> simp
@[simp] theorem reportFailed_rhc (k : ExpKey) (s : State) : (reportFailed k s).rhc = s.rhc := by
  unfold reportFailed; split <;> simp
@[simp] theorem reportFailed_cft (k : ExpKey) (s : State) : (reportFailed k s).cft = s.cft := by
  unfold reportFailed; split <;> simp
@[simp] theorem reportFailed_ports (k : ExpKey) (s : State) : (reportFailed k s).ports = s.ports := by
  unfold reportFailed; split <;> simp
@[simp] theorem reportFailed_urgent (k : ExpKey) (s : State) : (reportFailed k s).urgent = s.urgent := by
  unfold reportFailed; split <;> simp
@[simp] theorem reportFailed_routes (k : ExpKey) (s : State) : (reportFailed k s).routes = s.routes := by
  unfold reportFailed; split <;> simp
@[simp] theorem reportFailed_txs (k : ExpKey) (s : State) : (reportFailed k s).txs = s.txs := by
  unfold reportFailed; split <;> simp
@[simp] theorem reportFailed_svr (k : ExpKey) (s : State) : (reportFailed k s).svr = s.svr := by
  unfold reportFailed; split <;> simp

/-! ### The release gates -/

/-! `evalGate` changes `dic`, `ctr` and nothing else. -/

@[simp] theorem evalGate_pending (d : Door) (s : State) : (evalGate d s).pending = s.pending := by
  unfold evalGate releaseDoor; split <;> rfl
@[simp] theorem evalGate_now (d : Door) (s : State) : (evalGate d s).now = s.now := by
  unfold evalGate releaseDoor; split <;> rfl
@[simp] theorem evalGate_readerPref (d : Door) (s : State) : (evalGate d s).readerPref = s.readerPref := by
  unfold evalGate releaseDoor; split <;> rfl
@[simp] theorem evalGate_mode (d : Door) (s : State) : (evalGate d s).mode = s.mode := by
  unfold evalGate releaseDoor; split <;> rfl
@[simp] theorem evalGate_params (d : Door) (s : State) : (evalGate d s).params = s.params := by
  unfold evalGate releaseDoor; split <;> rfl
@[simp] theorem evalGate_sgm (d : Door) (s : State) : (evalGate d s).sgm = s.sgm := by
  unfold evalGate releaseDoor; split <;> rfl
@[simp] theorem evalGate_rse (d : Door) (s : State) : (evalGate d s).rse = s.rse := by
  unfold evalGate releaseDoor; split <;> rfl
@[simp] theorem evalGate_bdu (d : Door) (s : State) : (evalGate d s).bdu = s.bdu := by
  unfold evalGate releaseDoor; split <;> rfl
@[simp] theorem evalGate_rhc (d : Door) (s : State) : (evalGate d s).rhc = s.rhc := by
  unfold evalGate releaseDoor; split <;> rfl
@[simp] theorem evalGate_cft (d : Door) (s : State) : (evalGate d s).cft = s.cft := by
  unfold evalGate releaseDoor; split <;> rfl
@[simp] theorem evalGate_tic (d : Door) (s : State) : (evalGate d s).tic = s.tic := by
  unfold evalGate releaseDoor; split <;> rfl
@[simp] theorem evalGate_ports (d : Door) (s : State) : (evalGate d s).ports = s.ports := by
  unfold evalGate releaseDoor; split <;> rfl
@[simp] theorem evalGate_urgent (d : Door) (s : State) : (evalGate d s).urgent = s.urgent := by
  unfold evalGate releaseDoor; split <;> rfl
@[simp] theorem evalGate_routes (d : Door) (s : State) : (evalGate d s).routes = s.routes := by
  unfold evalGate releaseDoor; split <;> rfl
@[simp] theorem evalGate_txs (d : Door) (s : State) : (evalGate d s).txs = s.txs := by
  unfold evalGate releaseDoor; split <;> rfl
@[simp] theorem evalGate_svr (d : Door) (s : State) : (evalGate d s).svr = s.svr := by
  unfold evalGate releaseDoor; split <;> rfl
@[simp] theorem evalGate_lines (d : Door) (s : State) : (evalGate d s).lines = s.lines := by
  unfold evalGate releaseDoor; split <;> rfl

/-! `evalGates` changes `dic`, `ctr` and nothing else. -/

@[simp] theorem evalGates_pending (s : State) : (evalGates s).pending = s.pending := by
  simp [evalGates, allDoors]
@[simp] theorem evalGates_now (s : State) : (evalGates s).now = s.now := by
  simp [evalGates, allDoors]
@[simp] theorem evalGates_readerPref (s : State) : (evalGates s).readerPref = s.readerPref := by
  simp [evalGates, allDoors]
@[simp] theorem evalGates_mode (s : State) : (evalGates s).mode = s.mode := by
  simp [evalGates, allDoors]
@[simp] theorem evalGates_params (s : State) : (evalGates s).params = s.params := by
  simp [evalGates, allDoors]
@[simp] theorem evalGates_sgm (s : State) : (evalGates s).sgm = s.sgm := by
  simp [evalGates, allDoors]
@[simp] theorem evalGates_rse (s : State) : (evalGates s).rse = s.rse := by
  simp [evalGates, allDoors]
@[simp] theorem evalGates_bdu (s : State) : (evalGates s).bdu = s.bdu := by
  simp [evalGates, allDoors]
@[simp] theorem evalGates_rhc (s : State) : (evalGates s).rhc = s.rhc := by
  simp [evalGates, allDoors]
@[simp] theorem evalGates_cft (s : State) : (evalGates s).cft = s.cft := by
  simp [evalGates, allDoors]
@[simp] theorem evalGates_tic (s : State) : (evalGates s).tic = s.tic := by
  simp [evalGates, allDoors]
@[simp] theorem evalGates_ports (s : State) : (evalGates s).ports = s.ports := by
  simp [evalGates, allDoors]
@[simp] theorem evalGates_urgent (s : State) : (evalGates s).urgent = s.urgent := by
  simp [evalGates, allDoors]
@[simp] theorem evalGates_routes (s : State) : (evalGates s).routes = s.routes := by
  simp [evalGates, allDoors]
@[simp] theorem evalGates_txs (s : State) : (evalGates s).txs = s.txs := by
  simp [evalGates, allDoors]
@[simp] theorem evalGates_svr (s : State) : (evalGates s).svr = s.svr := by
  simp [evalGates, allDoors]
@[simp] theorem evalGates_lines (s : State) : (evalGates s).lines = s.lines := by
  simp [evalGates, allDoors]

/-! ### The tracker -/

/-! `countKind` changes `ctr` and nothing else. -/

@[simp] theorem countKind_pending (k : ExpKey) (g : KindCtr → KindCtr) (s : State) : (countKind k g s).pending = s.pending := by
  rfl
@[simp] theorem countKind_now (k : ExpKey) (g : KindCtr → KindCtr) (s : State) : (countKind k g s).now = s.now := by
  rfl
@[simp] theorem countKind_readerPref (k : ExpKey) (g : KindCtr → KindCtr) (s : State) : (countKind k g s).readerPref = s.readerPref := by
  rfl
@[simp] theorem countKind_mode (k : ExpKey) (g : KindCtr → KindCtr) (s : State) : (countKind k g s).mode = s.mode := by
  rfl
@[simp] theorem countKind_params (k : ExpKey) (g : KindCtr → KindCtr) (s : State) : (countKind k g s).params = s.params := by
  rfl
@[simp] theorem countKind_sgm (k : ExpKey) (g : KindCtr → KindCtr) (s : State) : (countKind k g s).sgm = s.sgm := by
  rfl
@[simp] theorem countKind_rse (k : ExpKey) (g : KindCtr → KindCtr) (s : State) : (countKind k g s).rse = s.rse := by
  rfl
@[simp] theorem countKind_bdu (k : ExpKey) (g : KindCtr → KindCtr) (s : State) : (countKind k g s).bdu = s.bdu := by
  rfl
@[simp] theorem countKind_rhc (k : ExpKey) (g : KindCtr → KindCtr) (s : State) : (countKind k g s).rhc = s.rhc := by
  rfl
@[simp] theorem countKind_dic (k : ExpKey) (g : KindCtr → KindCtr) (s : State) : (countKind k g s).dic = s.dic := by
  rfl
@[simp] theorem countKind_cft (k : ExpKey) (g : KindCtr → KindCtr) (s : State) : (countKind k g s).cft = s.cft := by
  rfl
@[simp] theorem countKind_tic (k : ExpKey) (g : KindCtr → KindCtr) (s : State) : (countKind k g s).tic = s.tic := by
  rfl
@[simp] theorem countKind_ports (k : ExpKey) (g : KindCtr → KindCtr) (s : State) : (countKind k g s).ports = s.ports := by
  rfl
@[simp] theorem countKind_urgent (k : ExpKey) (g : KindCtr → KindCtr) (s : State) : (countKind k g s).urgent = s.urgent := by
  rfl
@[simp] theorem countKind_routes (k : ExpKey) (g : KindCtr → KindCtr) (s : State) : (countKind k g s).routes = s.routes := by
  rfl
@[simp] theorem countKind_txs (k : ExpKey) (g : KindCtr → KindCtr) (s : State) : (countKind k g s).txs = s.txs := by
  rfl
@[simp] theorem countKind_svr (k : ExpKey) (g : KindCtr → KindCtr) (s : State) : (countKind k g s).svr = s.svr := by
  rfl
@[simp] theorem countKind_lines (k : ExpKey) (g : KindCtr → KindCtr) (s : State) : (countKind k g s).lines = s.lines := by
  rfl

/-! `cancel` changes `cft`, `ctr` and nothing else. -/

@[simp] theorem cancel_pending (k : ExpKey) (s : State) : (cancel k s).pending = s.pending := by
  unfold cancel; split <;> rfl
@[simp] theorem cancel_now (k : ExpKey) (s : State) : (cancel k s).now = s.now := by
  unfold cancel; split <;> rfl
@[simp] theorem cancel_readerPref (k : ExpKey) (s : State) : (cancel k s).readerPref = s.readerPref := by
  unfold cancel; split <;> rfl
@[simp] theorem cancel_mode (k : ExpKey) (s : State) : (cancel k s).mode = s.mode := by
  unfold cancel; split <;> rfl
@[simp] theorem cancel_params (k : ExpKey) (s : State) : (cancel k s).params = s.params := by
  unfold cancel; split <;> rfl
@[simp] theorem cancel_sgm (k : ExpKey) (s : State) : (cancel k s).sgm = s.sgm := by
  unfold cancel; split <;> rfl
@[simp] theorem cancel_rse (k : ExpKey) (s : State) : (cancel k s).rse = s.rse := by
  unfold cancel; split <;> rfl
@[simp] theorem cancel_bdu (k : ExpKey) (s : State) : (cancel k s).bdu = s.bdu := by
  unfold cancel; split <;> rfl
@[simp] theorem cancel_rhc (k : ExpKey) (s : State) : (cancel k s).rhc = s.rhc := by
  unfold cancel; split <;> rfl
@[simp] theorem cancel_dic (k : ExpKey) (s : State) : (cancel k s).dic = s.dic := by
  unfold cancel; split <;> rfl
@[simp] theorem cancel_tic (k : ExpKey) (s : State) : (cancel k s).tic = s.tic := by
  unfold cancel; split <;> rfl
@[simp] theorem cancel_ports (k : ExpKey) (s : State) : (cancel k s).ports = s.ports := by
  unfold cancel; split <;> rfl
@[simp] theorem cancel_urgent (k : ExpKey) (s : State) : (cancel k s).urgent = s.urgent := by
  unfold cancel; split <;> rfl
@[simp] theorem cancel_routes (k : ExpKey) (s : State) : (cancel k s).routes = s.routes := by
  unfold cancel; split <;> rfl
@[simp] theorem cancel_txs (k : ExpKey) (s : State) : (cancel k s).txs = s.txs := by
  unfold cancel; split <;> rfl
@[simp] theorem cancel_svr (k : ExpKey) (s : State) : (cancel k s).svr = s.svr := by
  unfold cancel; split <;> rfl
@[simp] theorem cancel_lines (k : ExpKey) (s : State) : (cancel k s).lines = s.lines := by
  unfold cancel; split <;> rfl

/-! `supersede` changes `cft`, `ctr` and nothing else. -/

@[simp] theorem supersede_pending (k : ExpKey) (s : State) : (supersede k s).pending = s.pending := by
  unfold supersede; split <;> rfl
@[simp] theorem supersede_now (k : ExpKey) (s : State) : (supersede k s).now = s.now := by
  unfold supersede; split <;> rfl
@[simp] theorem supersede_readerPref (k : ExpKey) (s : State) : (supersede k s).readerPref = s.readerPref := by
  unfold supersede; split <;> rfl
@[simp] theorem supersede_mode (k : ExpKey) (s : State) : (supersede k s).mode = s.mode := by
  unfold supersede; split <;> rfl
@[simp] theorem supersede_params (k : ExpKey) (s : State) : (supersede k s).params = s.params := by
  unfold supersede; split <;> rfl
@[simp] theorem supersede_sgm (k : ExpKey) (s : State) : (supersede k s).sgm = s.sgm := by
  unfold supersede; split <;> rfl
@[simp] theorem supersede_rse (k : ExpKey) (s : State) : (supersede k s).rse = s.rse := by
  unfold supersede; split <;> rfl
@[simp] theorem supersede_bdu (k : ExpKey) (s : State) : (supersede k s).bdu = s.bdu := by
  unfold supersede; split <;> rfl
@[simp] theorem supersede_rhc (k : ExpKey) (s : State) : (supersede k s).rhc = s.rhc := by
  unfold supersede; split <;> rfl
@[simp] theorem supersede_dic (k : ExpKey) (s : State) : (supersede k s).dic = s.dic := by
  unfold supersede; split <;> rfl
@[simp] theorem supersede_tic (k : ExpKey) (s : State) : (supersede k s).tic = s.tic := by
  unfold supersede; split <;> rfl
@[simp] theorem supersede_ports (k : ExpKey) (s : State) : (supersede k s).ports = s.ports := by
  unfold supersede; split <;> rfl
@[simp] theorem supersede_urgent (k : ExpKey) (s : State) : (supersede k s).urgent = s.urgent := by
  unfold supersede; split <;> rfl
@[simp] theorem supersede_routes (k : ExpKey) (s : State) : (supersede k s).routes = s.routes := by
  unfold supersede; split <;> rfl
@[simp] theorem supersede_txs (k : ExpKey) (s : State) : (supersede k s).txs = s.txs := by
  unfold supersede; split <;> rfl
@[simp] theorem supersede_svr (k : ExpKey) (s : State) : (supersede k s).svr = s.svr := by
  unfold supersede; split <;> rfl
@[simp] theorem supersede_lines (k : ExpKey) (s : State) : (supersede k s).lines = s.lines := by
  unfold supersede; split <;> rfl

/-! `evictHead` changes `cft`, `ctr` and nothing else. -/

@[simp] theorem evictHead_pending (s : State) : (evictHead s).pending = s.pending := by
  unfold evictHead; split <;> rfl
@[simp] theorem evictHead_now (s : State) : (evictHead s).now = s.now := by
  unfold evictHead; split <;> rfl
@[simp] theorem evictHead_readerPref (s : State) : (evictHead s).readerPref = s.readerPref := by
  unfold evictHead; split <;> rfl
@[simp] theorem evictHead_mode (s : State) : (evictHead s).mode = s.mode := by
  unfold evictHead; split <;> rfl
@[simp] theorem evictHead_params (s : State) : (evictHead s).params = s.params := by
  unfold evictHead; split <;> rfl
@[simp] theorem evictHead_sgm (s : State) : (evictHead s).sgm = s.sgm := by
  unfold evictHead; split <;> rfl
@[simp] theorem evictHead_rse (s : State) : (evictHead s).rse = s.rse := by
  unfold evictHead; split <;> rfl
@[simp] theorem evictHead_bdu (s : State) : (evictHead s).bdu = s.bdu := by
  unfold evictHead; split <;> rfl
@[simp] theorem evictHead_rhc (s : State) : (evictHead s).rhc = s.rhc := by
  unfold evictHead; split <;> rfl
@[simp] theorem evictHead_dic (s : State) : (evictHead s).dic = s.dic := by
  unfold evictHead; split <;> rfl
@[simp] theorem evictHead_tic (s : State) : (evictHead s).tic = s.tic := by
  unfold evictHead; split <;> rfl
@[simp] theorem evictHead_ports (s : State) : (evictHead s).ports = s.ports := by
  unfold evictHead; split <;> rfl
@[simp] theorem evictHead_urgent (s : State) : (evictHead s).urgent = s.urgent := by
  unfold evictHead; split <;> rfl
@[simp] theorem evictHead_routes (s : State) : (evictHead s).routes = s.routes := by
  unfold evictHead; split <;> rfl
@[simp] theorem evictHead_txs (s : State) : (evictHead s).txs = s.txs := by
  unfold evictHead; split <;> rfl
@[simp] theorem evictHead_svr (s : State) : (evictHead s).svr = s.svr := by
  unfold evictHead; split <;> rfl
@[simp] theorem evictHead_lines (s : State) : (evictHead s).lines = s.lines := by
  unfold evictHead; split <;> rfl

/-! `appendEntry` changes `cft`, `ctr` and nothing else. -/

@[simp] theorem appendEntry_pending (k : ExpKey) (ms : Nat) (s : State) : (appendEntry k ms s).pending = s.pending := by
  rfl
@[simp] theorem appendEntry_now (k : ExpKey) (ms : Nat) (s : State) : (appendEntry k ms s).now = s.now := by
  rfl
@[simp] theorem appendEntry_readerPref (k : ExpKey) (ms : Nat) (s : State) : (appendEntry k ms s).readerPref = s.readerPref := by
  rfl
@[simp] theorem appendEntry_mode (k : ExpKey) (ms : Nat) (s : State) : (appendEntry k ms s).mode = s.mode := by
  rfl
@[simp] theorem appendEntry_params (k : ExpKey) (ms : Nat) (s : State) : (appendEntry k ms s).params = s.params := by
  rfl
@[simp] theorem appendEntry_sgm (k : ExpKey) (ms : Nat) (s : State) : (appendEntry k ms s).sgm = s.sgm := by
  rfl
@[simp] theorem appendEntry_rse (k : ExpKey) (ms : Nat) (s : State) : (appendEntry k ms s).rse = s.rse := by
  rfl
@[simp] theorem appendEntry_bdu (k : ExpKey) (ms : Nat) (s : State) : (appendEntry k ms s).bdu = s.bdu := by
  rfl
@[simp] theorem appendEntry_rhc (k : ExpKey) (ms : Nat) (s : State) : (appendEntry k ms s).rhc = s.rhc := by
  rfl
@[simp] theorem appendEntry_dic (k : ExpKey) (ms : Nat) (s : State) : (appendEntry k ms s).dic = s.dic := by
  rfl
@[simp] theorem appendEntry_tic (k : ExpKey) (ms : Nat) (s : State) : (appendEntry k ms s).tic = s.tic := by
  rfl
@[simp] theorem appendEntry_ports (k : ExpKey) (ms : Nat) (s : State) : (appendEntry k ms s).ports = s.ports := by
  rfl
@[simp] theorem appendEntry_urgent (k : ExpKey) (ms : Nat) (s : State) : (appendEntry k ms s).urgent = s.urgent := by
  rfl
@[simp] theorem appendEntry_routes (k : ExpKey) (ms : Nat) (s : State) : (appendEntry k ms s).routes = s.routes := by
  rfl
@[simp] theorem appendEntry_txs (k : ExpKey) (ms : Nat) (s : State) : (appendEntry k ms s).txs = s.txs := by
  rfl
@[simp] theorem appendEntry_svr (k : ExpKey) (ms : Nat) (s : State) : (appendEntry k ms s).svr = s.svr := by
  rfl
@[simp] theorem appendEntry_lines (k : ExpKey) (ms : Nat) (s : State) : (appendEntry k ms s).lines = s.lines := by
  rfl

/-! The end of the almost-full condition can do nothing unless the stop brake is APPLIED, since the release gate and the kneel gate
both ask for it (R94, R113). A placement for the stop brake is never made in APPLIED. -/

theorem releaseGate_of_not_applied {s : State} (h : s.bdu.stopBrake ≠ .applied) (d : Door) : s.releaseGate d = false := by
  have e : (s.bdu.stopBrake == .applied) = false := by simpa using h
  simp [State.releaseGate, e]

theorem kneelGate_of_not_applied {s : State} (h : s.bdu.stopBrake ≠ .applied) : s.kneelGate = false := by
  have e : (s.bdu.stopBrake == .applied) = false := by simpa using h
  simp [State.kneelGate, e]

theorem evalGates_of_not_applied {s : State} (h : s.bdu.stopBrake ≠ .applied) : evalGates s = s := by
  have e (d : Door) : evalGate d s = s := by simp [evalGate, releaseGate_of_not_applied h]
  simp [evalGates, allDoors, e]

theorem almostFullEnded_of_not_applied {s : State} (h : s.bdu.stopBrake ≠ .applied) : almostFullEnded s = s := by
  simp [almostFullEnded, withDcm, evalGates_of_not_applied h, evalKneelGate, kneelGate_of_not_applied h]

theorem supersedeStep_of_not_applied {s : State} (h : s.bdu.stopBrake ≠ .applied) (k : ExpKey) :
    supersedeStep k s = supersede k s := by
  unfold supersedeStep
  simp only [almostFullEnded_of_not_applied (s := supersede k s) (by simpa using h), ite_self]

/-! What a placement leaves alone: always the parts below, and outside APPLIED more of them. -/

@[simp] theorem place_pending (k : ExpKey) (ms : Nat) (s : State) : (place k ms s).pending = s.pending := (place_frame k ms s).pending
@[simp] theorem place_now (k : ExpKey) (ms : Nat) (s : State) : (place k ms s).now = s.now := (place_frame k ms s).now
@[simp] theorem place_readerPref (k : ExpKey) (ms : Nat) (s : State) : (place k ms s).readerPref = s.readerPref := (place_frame k ms s).readerPref
@[simp] theorem place_mode (k : ExpKey) (ms : Nat) (s : State) : (place k ms s).mode = s.mode := (place_frame k ms s).mode
@[simp] theorem place_params (k : ExpKey) (ms : Nat) (s : State) : (place k ms s).params = s.params := (place_frame k ms s).params
@[simp] theorem place_sgm (k : ExpKey) (ms : Nat) (s : State) : (place k ms s).sgm = s.sgm := (place_frame k ms s).sgm
@[simp] theorem place_routes (k : ExpKey) (ms : Nat) (s : State) : (place k ms s).routes = s.routes := (place_frame k ms s).routes
@[simp] theorem place_svr (k : ExpKey) (ms : Nat) (s : State) : (place k ms s).svr = s.svr := (place_frame k ms s).svr
theorem place_rse_of_not_applied (k : ExpKey) (ms : Nat) {s : State} (h : s.bdu.stopBrake ≠ .applied) :
    (place k ms s).rse = s.rse := by
  unfold place; rw [supersedeStep_of_not_applied h]; dsimp only; split <;> simp
theorem place_rhc_of_not_applied (k : ExpKey) (ms : Nat) {s : State} (h : s.bdu.stopBrake ≠ .applied) :
    (place k ms s).rhc = s.rhc := by
  unfold place; rw [supersedeStep_of_not_applied h]; dsimp only; split <;> simp
theorem place_ports_of_not_applied (k : ExpKey) (ms : Nat) {s : State} (h : s.bdu.stopBrake ≠ .applied) :
    (place k ms s).ports = s.ports := by
  unfold place; rw [supersedeStep_of_not_applied h]; dsimp only; split <;> simp
theorem place_urgent_of_not_applied (k : ExpKey) (ms : Nat) {s : State} (h : s.bdu.stopBrake ≠ .applied) :
    (place k ms s).urgent = s.urgent := by
  unfold place; rw [supersedeStep_of_not_applied h]; dsimp only; split <;> simp
theorem place_txs_of_not_applied (k : ExpKey) (ms : Nat) {s : State} (h : s.bdu.stopBrake ≠ .applied) :
    (place k ms s).txs = s.txs := by
  unfold place; rw [supersedeStep_of_not_applied h]; dsimp only; split <;> simp

/-! ### The transmitters and the urgent path -/

/-! `startTx` changes `ports` and nothing else. -/

@[simp] theorem startTx_pending (p : PortId) (src : TxSource) (f : Frame) (s : State) : (startTx p src f s).pending = s.pending := by
  rfl
@[simp] theorem startTx_now (p : PortId) (src : TxSource) (f : Frame) (s : State) : (startTx p src f s).now = s.now := by
  rfl
@[simp] theorem startTx_readerPref (p : PortId) (src : TxSource) (f : Frame) (s : State) : (startTx p src f s).readerPref = s.readerPref := by
  rfl
@[simp] theorem startTx_mode (p : PortId) (src : TxSource) (f : Frame) (s : State) : (startTx p src f s).mode = s.mode := by
  rfl
@[simp] theorem startTx_params (p : PortId) (src : TxSource) (f : Frame) (s : State) : (startTx p src f s).params = s.params := by
  rfl
@[simp] theorem startTx_sgm (p : PortId) (src : TxSource) (f : Frame) (s : State) : (startTx p src f s).sgm = s.sgm := by
  rfl
@[simp] theorem startTx_rse (p : PortId) (src : TxSource) (f : Frame) (s : State) : (startTx p src f s).rse = s.rse := by
  rfl
@[simp] theorem startTx_bdu (p : PortId) (src : TxSource) (f : Frame) (s : State) : (startTx p src f s).bdu = s.bdu := by
  rfl
@[simp] theorem startTx_rhc (p : PortId) (src : TxSource) (f : Frame) (s : State) : (startTx p src f s).rhc = s.rhc := by
  rfl
@[simp] theorem startTx_dic (p : PortId) (src : TxSource) (f : Frame) (s : State) : (startTx p src f s).dic = s.dic := by
  rfl
@[simp] theorem startTx_cft (p : PortId) (src : TxSource) (f : Frame) (s : State) : (startTx p src f s).cft = s.cft := by
  rfl
@[simp] theorem startTx_tic (p : PortId) (src : TxSource) (f : Frame) (s : State) : (startTx p src f s).tic = s.tic := by
  rfl
@[simp] theorem startTx_urgent (p : PortId) (src : TxSource) (f : Frame) (s : State) : (startTx p src f s).urgent = s.urgent := by
  rfl
@[simp] theorem startTx_routes (p : PortId) (src : TxSource) (f : Frame) (s : State) : (startTx p src f s).routes = s.routes := by
  rfl
@[simp] theorem startTx_txs (p : PortId) (src : TxSource) (f : Frame) (s : State) : (startTx p src f s).txs = s.txs := by
  rfl
@[simp] theorem startTx_svr (p : PortId) (src : TxSource) (f : Frame) (s : State) : (startTx p src f s).svr = s.svr := by
  rfl
@[simp] theorem startTx_ctr (p : PortId) (src : TxSource) (f : Frame) (s : State) : (startTx p src f s).ctr = s.ctr := by
  rfl
@[simp] theorem startTx_lines (p : PortId) (src : TxSource) (f : Frame) (s : State) : (startTx p src f s).lines = s.lines := by
  rfl

/-! `putInSource` changes `ports`, `urgent`, `svr` and nothing else. -/

@[simp] theorem putInSource_pending (p : PortId) (src : TxSource) (f : Frame) (s : State) : (putInSource p src f s).pending = s.pending := by
  cases src <;> rfl
@[simp] theorem putInSource_now (p : PortId) (src : TxSource) (f : Frame) (s : State) : (putInSource p src f s).now = s.now := by
  cases src <;> rfl
@[simp] theorem putInSource_readerPref (p : PortId) (src : TxSource) (f : Frame) (s : State) : (putInSource p src f s).readerPref = s.readerPref := by
  cases src <;> rfl
@[simp] theorem putInSource_mode (p : PortId) (src : TxSource) (f : Frame) (s : State) : (putInSource p src f s).mode = s.mode := by
  cases src <;> rfl
@[simp] theorem putInSource_params (p : PortId) (src : TxSource) (f : Frame) (s : State) : (putInSource p src f s).params = s.params := by
  cases src <;> rfl
@[simp] theorem putInSource_sgm (p : PortId) (src : TxSource) (f : Frame) (s : State) : (putInSource p src f s).sgm = s.sgm := by
  cases src <;> rfl
@[simp] theorem putInSource_rse (p : PortId) (src : TxSource) (f : Frame) (s : State) : (putInSource p src f s).rse = s.rse := by
  cases src <;> rfl
@[simp] theorem putInSource_bdu (p : PortId) (src : TxSource) (f : Frame) (s : State) : (putInSource p src f s).bdu = s.bdu := by
  cases src <;> rfl
@[simp] theorem putInSource_rhc (p : PortId) (src : TxSource) (f : Frame) (s : State) : (putInSource p src f s).rhc = s.rhc := by
  cases src <;> rfl
@[simp] theorem putInSource_dic (p : PortId) (src : TxSource) (f : Frame) (s : State) : (putInSource p src f s).dic = s.dic := by
  cases src <;> rfl
@[simp] theorem putInSource_cft (p : PortId) (src : TxSource) (f : Frame) (s : State) : (putInSource p src f s).cft = s.cft := by
  cases src <;> rfl
@[simp] theorem putInSource_tic (p : PortId) (src : TxSource) (f : Frame) (s : State) : (putInSource p src f s).tic = s.tic := by
  cases src <;> rfl
@[simp] theorem putInSource_routes (p : PortId) (src : TxSource) (f : Frame) (s : State) : (putInSource p src f s).routes = s.routes := by
  cases src <;> rfl
@[simp] theorem putInSource_txs (p : PortId) (src : TxSource) (f : Frame) (s : State) : (putInSource p src f s).txs = s.txs := by
  cases src <;> rfl
@[simp] theorem putInSource_ctr (p : PortId) (src : TxSource) (f : Frame) (s : State) : (putInSource p src f s).ctr = s.ctr := by
  cases src <;> rfl
@[simp] theorem putInSource_lines (p : PortId) (src : TxSource) (f : Frame) (s : State) : (putInSource p src f s).lines = s.lines := by
  cases src <;> rfl

theorem takeFromSource_parts {p : PortId} {s : State} {x : TxSource × Frame × State} (h : takeFromSource p s = some x) :
    x.2.2 = ((s.setPorts x.2.2.ports).setUrgent x.2.2.urgent).setSvr x.2.2.svr := by
  unfold takeFromSource at h
  cases p <;> simp only at h <;> (repeat' split at h) <;> cases h <;> rfl

/-! `chooseTx` changes `ports`, `urgent`, `svr` and nothing else. -/

@[simp] theorem chooseTx_pending (p : PortId) (s : State) : (chooseTx p s).pending = s.pending := by
  unfold chooseTx; split <;> (try split) <;> (try rfl)
  next h => have e := takeFromSource_parts h; dsimp only at e; rw [e]; rfl
@[simp] theorem chooseTx_now (p : PortId) (s : State) : (chooseTx p s).now = s.now := by
  unfold chooseTx; split <;> (try split) <;> (try rfl)
  next h => have e := takeFromSource_parts h; dsimp only at e; rw [e]; rfl
@[simp] theorem chooseTx_readerPref (p : PortId) (s : State) : (chooseTx p s).readerPref = s.readerPref := by
  unfold chooseTx; split <;> (try split) <;> (try rfl)
  next h => have e := takeFromSource_parts h; dsimp only at e; rw [e]; rfl
@[simp] theorem chooseTx_mode (p : PortId) (s : State) : (chooseTx p s).mode = s.mode := by
  unfold chooseTx; split <;> (try split) <;> (try rfl)
  next h => have e := takeFromSource_parts h; dsimp only at e; rw [e]; rfl
@[simp] theorem chooseTx_params (p : PortId) (s : State) : (chooseTx p s).params = s.params := by
  unfold chooseTx; split <;> (try split) <;> (try rfl)
  next h => have e := takeFromSource_parts h; dsimp only at e; rw [e]; rfl
@[simp] theorem chooseTx_sgm (p : PortId) (s : State) : (chooseTx p s).sgm = s.sgm := by
  unfold chooseTx; split <;> (try split) <;> (try rfl)
  next h => have e := takeFromSource_parts h; dsimp only at e; rw [e]; rfl
@[simp] theorem chooseTx_rse (p : PortId) (s : State) : (chooseTx p s).rse = s.rse := by
  unfold chooseTx; split <;> (try split) <;> (try rfl)
  next h => have e := takeFromSource_parts h; dsimp only at e; rw [e]; rfl
@[simp] theorem chooseTx_bdu (p : PortId) (s : State) : (chooseTx p s).bdu = s.bdu := by
  unfold chooseTx; split <;> (try split) <;> (try rfl)
  next h => have e := takeFromSource_parts h; dsimp only at e; rw [e]; rfl
@[simp] theorem chooseTx_rhc (p : PortId) (s : State) : (chooseTx p s).rhc = s.rhc := by
  unfold chooseTx; split <;> (try split) <;> (try rfl)
  next h => have e := takeFromSource_parts h; dsimp only at e; rw [e]; rfl
@[simp] theorem chooseTx_dic (p : PortId) (s : State) : (chooseTx p s).dic = s.dic := by
  unfold chooseTx; split <;> (try split) <;> (try rfl)
  next h => have e := takeFromSource_parts h; dsimp only at e; rw [e]; rfl
@[simp] theorem chooseTx_cft (p : PortId) (s : State) : (chooseTx p s).cft = s.cft := by
  unfold chooseTx; split <;> (try split) <;> (try rfl)
  next h => have e := takeFromSource_parts h; dsimp only at e; rw [e]; rfl
@[simp] theorem chooseTx_tic (p : PortId) (s : State) : (chooseTx p s).tic = s.tic := by
  unfold chooseTx; split <;> (try split) <;> (try rfl)
  next h => have e := takeFromSource_parts h; dsimp only at e; rw [e]; rfl
@[simp] theorem chooseTx_routes (p : PortId) (s : State) : (chooseTx p s).routes = s.routes := by
  unfold chooseTx; split <;> (try split) <;> (try rfl)
  next h => have e := takeFromSource_parts h; dsimp only at e; rw [e]; rfl
@[simp] theorem chooseTx_txs (p : PortId) (s : State) : (chooseTx p s).txs = s.txs := by
  unfold chooseTx; split <;> (try split) <;> (try rfl)
  next h => have e := takeFromSource_parts h; dsimp only at e; rw [e]; rfl
@[simp] theorem chooseTx_ctr (p : PortId) (s : State) : (chooseTx p s).ctr = s.ctr := by
  unfold chooseTx; split <;> (try split) <;> (try rfl)
  next h => have e := takeFromSource_parts h; dsimp only at e; rw [e]; rfl
@[simp] theorem chooseTx_lines (p : PortId) (s : State) : (chooseTx p s).lines = s.lines := by
  unfold chooseTx; split <;> (try split) <;> (try rfl)
  next h => have e := takeFromSource_parts h; dsimp only at e; rw [e]; rfl

/-! `placeFrame` changes `ports`, `urgent`, `svr`, `ctr` and nothing else. -/

@[simp] theorem placeFrame_pending (p : PortId) (src : TxSource) (f : Frame) (s : State) : (placeFrame p src f s).pending = s.pending := by
  unfold placeFrame; (repeat' split) <;> simp
@[simp] theorem placeFrame_now (p : PortId) (src : TxSource) (f : Frame) (s : State) : (placeFrame p src f s).now = s.now := by
  unfold placeFrame; (repeat' split) <;> simp
@[simp] theorem placeFrame_readerPref (p : PortId) (src : TxSource) (f : Frame) (s : State) : (placeFrame p src f s).readerPref = s.readerPref := by
  unfold placeFrame; (repeat' split) <;> simp
@[simp] theorem placeFrame_mode (p : PortId) (src : TxSource) (f : Frame) (s : State) : (placeFrame p src f s).mode = s.mode := by
  unfold placeFrame; (repeat' split) <;> simp
@[simp] theorem placeFrame_params (p : PortId) (src : TxSource) (f : Frame) (s : State) : (placeFrame p src f s).params = s.params := by
  unfold placeFrame; (repeat' split) <;> simp
@[simp] theorem placeFrame_sgm (p : PortId) (src : TxSource) (f : Frame) (s : State) : (placeFrame p src f s).sgm = s.sgm := by
  unfold placeFrame; (repeat' split) <;> simp
@[simp] theorem placeFrame_rse (p : PortId) (src : TxSource) (f : Frame) (s : State) : (placeFrame p src f s).rse = s.rse := by
  unfold placeFrame; (repeat' split) <;> simp
@[simp] theorem placeFrame_bdu (p : PortId) (src : TxSource) (f : Frame) (s : State) : (placeFrame p src f s).bdu = s.bdu := by
  unfold placeFrame; (repeat' split) <;> simp
@[simp] theorem placeFrame_rhc (p : PortId) (src : TxSource) (f : Frame) (s : State) : (placeFrame p src f s).rhc = s.rhc := by
  unfold placeFrame; (repeat' split) <;> simp
@[simp] theorem placeFrame_dic (p : PortId) (src : TxSource) (f : Frame) (s : State) : (placeFrame p src f s).dic = s.dic := by
  unfold placeFrame; (repeat' split) <;> simp
@[simp] theorem placeFrame_cft (p : PortId) (src : TxSource) (f : Frame) (s : State) : (placeFrame p src f s).cft = s.cft := by
  unfold placeFrame; (repeat' split) <;> simp
@[simp] theorem placeFrame_tic (p : PortId) (src : TxSource) (f : Frame) (s : State) : (placeFrame p src f s).tic = s.tic := by
  unfold placeFrame; (repeat' split) <;> simp
@[simp] theorem placeFrame_routes (p : PortId) (src : TxSource) (f : Frame) (s : State) : (placeFrame p src f s).routes = s.routes := by
  unfold placeFrame; (repeat' split) <;> simp
@[simp] theorem placeFrame_txs (p : PortId) (src : TxSource) (f : Frame) (s : State) : (placeFrame p src f s).txs = s.txs := by
  unfold placeFrame; (repeat' split) <;> simp
@[simp] theorem placeFrame_lines (p : PortId) (src : TxSource) (f : Frame) (s : State) : (placeFrame p src f s).lines = s.lines := by
  unfold placeFrame; (repeat' split) <;> simp

/-! `countUrgent` changes `ctr` and nothing else. -/

@[simp] theorem countUrgent_pending (k : GenKind) (g : UrgentCtr → UrgentCtr) (s : State) : (countUrgent k g s).pending = s.pending := by
  rfl
@[simp] theorem countUrgent_now (k : GenKind) (g : UrgentCtr → UrgentCtr) (s : State) : (countUrgent k g s).now = s.now := by
  rfl
@[simp] theorem countUrgent_readerPref (k : GenKind) (g : UrgentCtr → UrgentCtr) (s : State) : (countUrgent k g s).readerPref = s.readerPref := by
  rfl
@[simp] theorem countUrgent_mode (k : GenKind) (g : UrgentCtr → UrgentCtr) (s : State) : (countUrgent k g s).mode = s.mode := by
  rfl
@[simp] theorem countUrgent_params (k : GenKind) (g : UrgentCtr → UrgentCtr) (s : State) : (countUrgent k g s).params = s.params := by
  rfl
@[simp] theorem countUrgent_sgm (k : GenKind) (g : UrgentCtr → UrgentCtr) (s : State) : (countUrgent k g s).sgm = s.sgm := by
  rfl
@[simp] theorem countUrgent_rse (k : GenKind) (g : UrgentCtr → UrgentCtr) (s : State) : (countUrgent k g s).rse = s.rse := by
  rfl
@[simp] theorem countUrgent_bdu (k : GenKind) (g : UrgentCtr → UrgentCtr) (s : State) : (countUrgent k g s).bdu = s.bdu := by
  rfl
@[simp] theorem countUrgent_rhc (k : GenKind) (g : UrgentCtr → UrgentCtr) (s : State) : (countUrgent k g s).rhc = s.rhc := by
  rfl
@[simp] theorem countUrgent_dic (k : GenKind) (g : UrgentCtr → UrgentCtr) (s : State) : (countUrgent k g s).dic = s.dic := by
  rfl
@[simp] theorem countUrgent_cft (k : GenKind) (g : UrgentCtr → UrgentCtr) (s : State) : (countUrgent k g s).cft = s.cft := by
  rfl
@[simp] theorem countUrgent_tic (k : GenKind) (g : UrgentCtr → UrgentCtr) (s : State) : (countUrgent k g s).tic = s.tic := by
  rfl
@[simp] theorem countUrgent_ports (k : GenKind) (g : UrgentCtr → UrgentCtr) (s : State) : (countUrgent k g s).ports = s.ports := by
  rfl
@[simp] theorem countUrgent_urgent (k : GenKind) (g : UrgentCtr → UrgentCtr) (s : State) : (countUrgent k g s).urgent = s.urgent := by
  rfl
@[simp] theorem countUrgent_routes (k : GenKind) (g : UrgentCtr → UrgentCtr) (s : State) : (countUrgent k g s).routes = s.routes := by
  rfl
@[simp] theorem countUrgent_txs (k : GenKind) (g : UrgentCtr → UrgentCtr) (s : State) : (countUrgent k g s).txs = s.txs := by
  rfl
@[simp] theorem countUrgent_svr (k : GenKind) (g : UrgentCtr → UrgentCtr) (s : State) : (countUrgent k g s).svr = s.svr := by
  rfl
@[simp] theorem countUrgent_lines (k : GenKind) (g : UrgentCtr → UrgentCtr) (s : State) : (countUrgent k g s).lines = s.lines := by
  rfl

/-! `urgentRequest` changes `txs`, `ports`, `urgent`, `svr`, `ctr` and nothing else. -/

@[simp] theorem urgentRequest_pending (k : GenKind) (x : List Byte) (s : State) : (urgentRequest k x s).pending = s.pending := by
  unfold urgentRequest; split
  · rfl
  · split
    · simp
    · split <;> simp [buildFrame]
@[simp] theorem urgentRequest_now (k : GenKind) (x : List Byte) (s : State) : (urgentRequest k x s).now = s.now := by
  unfold urgentRequest; split
  · rfl
  · split
    · simp
    · split <;> simp [buildFrame]
@[simp] theorem urgentRequest_readerPref (k : GenKind) (x : List Byte) (s : State) : (urgentRequest k x s).readerPref = s.readerPref := by
  unfold urgentRequest; split
  · rfl
  · split
    · simp
    · split <;> simp [buildFrame]
@[simp] theorem urgentRequest_mode (k : GenKind) (x : List Byte) (s : State) : (urgentRequest k x s).mode = s.mode := by
  unfold urgentRequest; split
  · rfl
  · split
    · simp
    · split <;> simp [buildFrame]
@[simp] theorem urgentRequest_params (k : GenKind) (x : List Byte) (s : State) : (urgentRequest k x s).params = s.params := by
  unfold urgentRequest; split
  · rfl
  · split
    · simp
    · split <;> simp [buildFrame]
@[simp] theorem urgentRequest_sgm (k : GenKind) (x : List Byte) (s : State) : (urgentRequest k x s).sgm = s.sgm := by
  unfold urgentRequest; split
  · rfl
  · split
    · simp
    · split <;> simp [buildFrame]
@[simp] theorem urgentRequest_rse (k : GenKind) (x : List Byte) (s : State) : (urgentRequest k x s).rse = s.rse := by
  unfold urgentRequest; split
  · rfl
  · split
    · simp
    · split <;> simp [buildFrame]
@[simp] theorem urgentRequest_bdu (k : GenKind) (x : List Byte) (s : State) : (urgentRequest k x s).bdu = s.bdu := by
  unfold urgentRequest; split
  · rfl
  · split
    · simp
    · split <;> simp [buildFrame]
@[simp] theorem urgentRequest_rhc (k : GenKind) (x : List Byte) (s : State) : (urgentRequest k x s).rhc = s.rhc := by
  unfold urgentRequest; split
  · rfl
  · split
    · simp
    · split <;> simp [buildFrame]
@[simp] theorem urgentRequest_dic (k : GenKind) (x : List Byte) (s : State) : (urgentRequest k x s).dic = s.dic := by
  unfold urgentRequest; split
  · rfl
  · split
    · simp
    · split <;> simp [buildFrame]
@[simp] theorem urgentRequest_cft (k : GenKind) (x : List Byte) (s : State) : (urgentRequest k x s).cft = s.cft := by
  unfold urgentRequest; split
  · rfl
  · split
    · simp
    · split <;> simp [buildFrame]
@[simp] theorem urgentRequest_tic (k : GenKind) (x : List Byte) (s : State) : (urgentRequest k x s).tic = s.tic := by
  unfold urgentRequest; split
  · rfl
  · split
    · simp
    · split <;> simp [buildFrame]
@[simp] theorem urgentRequest_routes (k : GenKind) (x : List Byte) (s : State) : (urgentRequest k x s).routes = s.routes := by
  unfold urgentRequest; split
  · rfl
  · split
    · simp
    · split <;> simp [buildFrame]
@[simp] theorem urgentRequest_lines (k : GenKind) (x : List Byte) (s : State) : (urgentRequest k x s).lines = s.lines := by
  unfold urgentRequest; split
  · rfl
  · split
    · simp
    · split <;> simp [buildFrame]

/-! ### The requester set -/

/-! `enterApplying` changes `bdu`, `lines`, `tic`, `ctr`, `cft`, `dic`, `txs`, `ports`, `urgent`, `svr` and nothing else. -/

@[simp] theorem enterApplying_pending (s : State) : (enterApplying s).pending = s.pending := by
  simp [enterApplying, urgentBac]
@[simp] theorem enterApplying_now (s : State) : (enterApplying s).now = s.now := by
  simp [enterApplying, urgentBac]
@[simp] theorem enterApplying_readerPref (s : State) : (enterApplying s).readerPref = s.readerPref := by
  simp [enterApplying, urgentBac]
@[simp] theorem enterApplying_mode (s : State) : (enterApplying s).mode = s.mode := by
  simp [enterApplying, urgentBac]
@[simp] theorem enterApplying_params (s : State) : (enterApplying s).params = s.params := by
  simp [enterApplying, urgentBac]
@[simp] theorem enterApplying_sgm (s : State) : (enterApplying s).sgm = s.sgm := by
  simp [enterApplying, urgentBac]
@[simp] theorem enterApplying_rse (s : State) : (enterApplying s).rse = s.rse := by
  simp only [enterApplying, urgentBac, State.countBdu_rse, urgentRequest_rse]
  rw [place_rse_of_not_applied _ _ (by simp)]; simp
@[simp] theorem enterApplying_rhc (s : State) : (enterApplying s).rhc = s.rhc := by
  simp only [enterApplying, urgentBac, State.countBdu_rhc, urgentRequest_rhc]
  rw [place_rhc_of_not_applied _ _ (by simp)]; simp
@[simp] theorem enterApplying_routes (s : State) : (enterApplying s).routes = s.routes := by
  simp [enterApplying, urgentBac]

/-! `enterReleasing` changes `bdu`, `lines`, `tic`, `ctr`, `cft`, `dic` and nothing else. -/

@[simp] theorem enterReleasing_pending (s : State) : (enterReleasing s).pending = s.pending := by
  simp [enterReleasing]
@[simp] theorem enterReleasing_now (s : State) : (enterReleasing s).now = s.now := by
  simp [enterReleasing]
@[simp] theorem enterReleasing_readerPref (s : State) : (enterReleasing s).readerPref = s.readerPref := by
  simp [enterReleasing]
@[simp] theorem enterReleasing_mode (s : State) : (enterReleasing s).mode = s.mode := by
  simp [enterReleasing]
@[simp] theorem enterReleasing_params (s : State) : (enterReleasing s).params = s.params := by
  simp [enterReleasing]
@[simp] theorem enterReleasing_sgm (s : State) : (enterReleasing s).sgm = s.sgm := by
  simp [enterReleasing]
@[simp] theorem enterReleasing_rse (s : State) : (enterReleasing s).rse = s.rse := by
  simp [enterReleasing, place_rse_of_not_applied]
@[simp] theorem enterReleasing_rhc (s : State) : (enterReleasing s).rhc = s.rhc := by
  simp [enterReleasing, place_rhc_of_not_applied]
@[simp] theorem enterReleasing_ports (s : State) : (enterReleasing s).ports = s.ports := by
  simp [enterReleasing, place_ports_of_not_applied]
@[simp] theorem enterReleasing_urgent (s : State) : (enterReleasing s).urgent = s.urgent := by
  simp [enterReleasing, place_urgent_of_not_applied]
@[simp] theorem enterReleasing_routes (s : State) : (enterReleasing s).routes = s.routes := by
  simp [enterReleasing]
@[simp] theorem enterReleasing_txs (s : State) : (enterReleasing s).txs = s.txs := by
  simp [enterReleasing, place_txs_of_not_applied]
@[simp] theorem enterReleasing_svr (s : State) : (enterReleasing s).svr = s.svr := by
  simp [enterReleasing]

/-! `firstRequester` changes `bdu`, `lines`, `tic`, `ctr`, `cft`, `dic`, `txs`, `ports`, `urgent`, `svr` and nothing else. -/

@[simp] theorem firstRequester_pending (s : State) : (firstRequester s).pending = s.pending := by
  unfold firstRequester; (repeat' split) <;> simp
@[simp] theorem firstRequester_now (s : State) : (firstRequester s).now = s.now := by
  unfold firstRequester; (repeat' split) <;> simp
@[simp] theorem firstRequester_readerPref (s : State) : (firstRequester s).readerPref = s.readerPref := by
  unfold firstRequester; (repeat' split) <;> simp
@[simp] theorem firstRequester_mode (s : State) : (firstRequester s).mode = s.mode := by
  unfold firstRequester; (repeat' split) <;> simp
@[simp] theorem firstRequester_params (s : State) : (firstRequester s).params = s.params := by
  unfold firstRequester; (repeat' split) <;> simp
@[simp] theorem firstRequester_sgm (s : State) : (firstRequester s).sgm = s.sgm := by
  unfold firstRequester; (repeat' split) <;> simp
@[simp] theorem firstRequester_rse (s : State) : (firstRequester s).rse = s.rse := by
  unfold firstRequester; (repeat' split) <;> simp
@[simp] theorem firstRequester_rhc (s : State) : (firstRequester s).rhc = s.rhc := by
  unfold firstRequester; (repeat' split) <;> simp
@[simp] theorem firstRequester_routes (s : State) : (firstRequester s).routes = s.routes := by
  unfold firstRequester; (repeat' split) <;> simp

/-! `lastRequester` changes `bdu`, `lines`, `tic`, `ctr`, `cft`, `dic` and nothing else. -/

@[simp] theorem lastRequester_pending (s : State) : (lastRequester s).pending = s.pending := by
  unfold lastRequester; (repeat' split) <;> simp
@[simp] theorem lastRequester_now (s : State) : (lastRequester s).now = s.now := by
  unfold lastRequester; (repeat' split) <;> simp
@[simp] theorem lastRequester_readerPref (s : State) : (lastRequester s).readerPref = s.readerPref := by
  unfold lastRequester; (repeat' split) <;> simp
@[simp] theorem lastRequester_mode (s : State) : (lastRequester s).mode = s.mode := by
  unfold lastRequester; (repeat' split) <;> simp
@[simp] theorem lastRequester_params (s : State) : (lastRequester s).params = s.params := by
  unfold lastRequester; (repeat' split) <;> simp
@[simp] theorem lastRequester_sgm (s : State) : (lastRequester s).sgm = s.sgm := by
  unfold lastRequester; (repeat' split) <;> simp
@[simp] theorem lastRequester_rse (s : State) : (lastRequester s).rse = s.rse := by
  unfold lastRequester; (repeat' split) <;> simp
@[simp] theorem lastRequester_rhc (s : State) : (lastRequester s).rhc = s.rhc := by
  unfold lastRequester; (repeat' split) <;> simp
@[simp] theorem lastRequester_ports (s : State) : (lastRequester s).ports = s.ports := by
  unfold lastRequester; (repeat' split) <;> simp
@[simp] theorem lastRequester_urgent (s : State) : (lastRequester s).urgent = s.urgent := by
  unfold lastRequester; (repeat' split) <;> simp
@[simp] theorem lastRequester_routes (s : State) : (lastRequester s).routes = s.routes := by
  unfold lastRequester; (repeat' split) <;> simp
@[simp] theorem lastRequester_txs (s : State) : (lastRequester s).txs = s.txs := by
  unfold lastRequester; (repeat' split) <;> simp
@[simp] theorem lastRequester_svr (s : State) : (lastRequester s).svr = s.svr := by
  unfold lastRequester; (repeat' split) <;> simp

/-! `addReq` changes `bdu`, `lines`, `tic`, `ctr`, `cft`, `dic`, `txs`, `ports`, `urgent`, `svr` and nothing else. -/

@[simp] theorem addReq_pending (k : Requester) (s : State) : (addReq k s).pending = s.pending := by
  unfold addReq putReq; (repeat' split) <;> simp
@[simp] theorem addReq_now (k : Requester) (s : State) : (addReq k s).now = s.now := by
  unfold addReq putReq; (repeat' split) <;> simp
@[simp] theorem addReq_readerPref (k : Requester) (s : State) : (addReq k s).readerPref = s.readerPref := by
  unfold addReq putReq; (repeat' split) <;> simp
@[simp] theorem addReq_mode (k : Requester) (s : State) : (addReq k s).mode = s.mode := by
  unfold addReq putReq; (repeat' split) <;> simp
@[simp] theorem addReq_params (k : Requester) (s : State) : (addReq k s).params = s.params := by
  unfold addReq putReq; (repeat' split) <;> simp
@[simp] theorem addReq_sgm (k : Requester) (s : State) : (addReq k s).sgm = s.sgm := by
  unfold addReq putReq; (repeat' split) <;> simp
@[simp] theorem addReq_rse (k : Requester) (s : State) : (addReq k s).rse = s.rse := by
  unfold addReq putReq; (repeat' split) <;> simp
@[simp] theorem addReq_rhc (k : Requester) (s : State) : (addReq k s).rhc = s.rhc := by
  unfold addReq putReq; (repeat' split) <;> simp
@[simp] theorem addReq_routes (k : Requester) (s : State) : (addReq k s).routes = s.routes := by
  unfold addReq putReq; (repeat' split) <;> simp

/-! `removeReq` changes `bdu`, `lines`, `tic`, `ctr`, `cft`, `dic` and nothing else. -/

@[simp] theorem removeReq_pending (k : Requester) (s : State) : (removeReq k s).pending = s.pending := by
  unfold removeReq putReq; simp only; (repeat' split) <;> simp
@[simp] theorem removeReq_now (k : Requester) (s : State) : (removeReq k s).now = s.now := by
  unfold removeReq putReq; simp only; (repeat' split) <;> simp
@[simp] theorem removeReq_readerPref (k : Requester) (s : State) : (removeReq k s).readerPref = s.readerPref := by
  unfold removeReq putReq; simp only; (repeat' split) <;> simp
@[simp] theorem removeReq_mode (k : Requester) (s : State) : (removeReq k s).mode = s.mode := by
  unfold removeReq putReq; simp only; (repeat' split) <;> simp
@[simp] theorem removeReq_params (k : Requester) (s : State) : (removeReq k s).params = s.params := by
  unfold removeReq putReq; simp only; (repeat' split) <;> simp
@[simp] theorem removeReq_sgm (k : Requester) (s : State) : (removeReq k s).sgm = s.sgm := by
  unfold removeReq putReq; simp only; (repeat' split) <;> simp
@[simp] theorem removeReq_rse (k : Requester) (s : State) : (removeReq k s).rse = s.rse := by
  unfold removeReq putReq; simp only; (repeat' split) <;> simp
@[simp] theorem removeReq_rhc (k : Requester) (s : State) : (removeReq k s).rhc = s.rhc := by
  unfold removeReq putReq; simp only; (repeat' split) <;> simp
@[simp] theorem removeReq_ports (k : Requester) (s : State) : (removeReq k s).ports = s.ports := by
  unfold removeReq putReq; simp only; (repeat' split) <;> simp
@[simp] theorem removeReq_urgent (k : Requester) (s : State) : (removeReq k s).urgent = s.urgent := by
  unfold removeReq putReq; simp only; (repeat' split) <;> simp
@[simp] theorem removeReq_routes (k : Requester) (s : State) : (removeReq k s).routes = s.routes := by
  unfold removeReq putReq; simp only; (repeat' split) <;> simp
@[simp] theorem removeReq_txs (k : Requester) (s : State) : (removeReq k s).txs = s.txs := by
  unfold removeReq putReq; simp only; (repeat' split) <;> simp
@[simp] theorem removeReq_svr (k : Requester) (s : State) : (removeReq k s).svr = s.svr := by
  unfold removeReq putReq; simp only; (repeat' split) <;> simp

/-! `request` changes `bdu`, `lines`, `tic`, `ctr`, `cft`, `dic`, `txs`, `ports`, `urgent`, `svr` and nothing else. -/

@[simp] theorem request_pending (k : Requester) (b : Bool) (s : State) : (request k b s).pending = s.pending := by
  unfold request; split <;> simp
@[simp] theorem request_now (k : Requester) (b : Bool) (s : State) : (request k b s).now = s.now := by
  unfold request; split <;> simp
@[simp] theorem request_readerPref (k : Requester) (b : Bool) (s : State) : (request k b s).readerPref = s.readerPref := by
  unfold request; split <;> simp
@[simp] theorem request_mode (k : Requester) (b : Bool) (s : State) : (request k b s).mode = s.mode := by
  unfold request; split <;> simp
@[simp] theorem request_params (k : Requester) (b : Bool) (s : State) : (request k b s).params = s.params := by
  unfold request; split <;> simp
@[simp] theorem request_sgm (k : Requester) (b : Bool) (s : State) : (request k b s).sgm = s.sgm := by
  unfold request; split <;> simp
@[simp] theorem request_rse (k : Requester) (b : Bool) (s : State) : (request k b s).rse = s.rse := by
  unfold request; split <;> simp
@[simp] theorem request_rhc (k : Requester) (b : Bool) (s : State) : (request k b s).rhc = s.rhc := by
  unfold request; split <;> simp
@[simp] theorem request_routes (k : Requester) (b : Bool) (s : State) : (request k b s).routes = s.routes := by
  unfold request; split <;> simp

/-! ### What they make of the part they change -/

theorem clamp_bounds {lo hi : Int} (h : lo ≤ hi) (x : Int) : lo ≤ clamp lo hi x ∧ clamp lo hi x ≤ hi := by
  unfold clamp; split
  · omega
  · split <;> omega

theorem clamp_of_mem {lo hi x : Int} (h : lo ≤ x) (k : x ≤ hi) : clamp lo hi x = x := by
  unfold clamp
  rw [if_neg (by omega), if_neg (by omega)]

theorem bump_of_lt {n : Nat} (h : n < Config.hold16) : bump n = n + 1 := if_pos h

theorem bump_hold : bump Config.hold16 = Config.hold16 := rfl

theorem le_bump (n : Nat) : n ≤ bump n := by unfold bump; split <;> omega

theorem bump32_of_lt {n : Nat} (h : n < Config.hold32) : bump32 n = n + 1 := by
  unfold bump32 bump32By
  rw [if_pos h]
  omega

/-- Each source's record outlives a re-forming of the combined state. -/
@[simp] theorem reformCombined_source (s : State) (j : Source) : (reformCombined s).source j = s.source j := by
  unfold reformCombined State.enterPermitted State.enterCombined
  split <;> (try split) <;> rfl

theorem Source.idx_inj {j k : Source} (h : j.idx = k.idx) : j = k := by
  cases j <;> cases k <;> first | rfl | cases h

theorem changeSource_source (k j : Source) (b : Bool) (s : State) :
    ((changeSource k b s).source j).active = if j = k then b else (s.source j).active := by
  by_cases h : j = k
  · subst h
    cases b <;> simp [changeSource, State.source, vmodify]
  · have : k.idx.val ≠ j.idx.val := fun e => h (Source.idx_inj (Fin.ext e.symm))
    cases b <;> simp [changeSource, State.source, vmodify, h, Vector.getElem_set_ne _ _ this]

/-- A report makes its source ACTIVE or INACTIVE and leaves the others (R143, R144). -/
theorem reportSource_source (k j : Source) (b : Bool) (s : State) :
    ((reportSource k b s).source j).active = if j = k then b else (s.source j).active := by
  unfold reportSource
  split
  · next h => split
              · next e => subst e; exact h
              · rfl
  · rw [reformCombined_source, changeSource_source]

/-- The line STOP_HOLD is no business of the combiner. -/
@[simp] theorem reportSource_stopHold (k : Source) (b : Bool) (s : State) :
    (reportSource k b s).lines.stopHold = s.lines.stopHold := by
  unfold reportSource
  split
  · rfl
  · unfold reformCombined State.enterPermitted State.enterCombined
    split <;> (try split) <;> simp

/-- The stop-brake state is set, STOP_HOLD follows it (R76), and STOP_BRAKE is ACTIVE exactly outside RELEASED (R143). -/
theorem setStopBrake_sets (b : StopBrake) (s : State) :
    (setStopBrake b s).bdu = { s.bdu with stopBrake := b } ∧ (setStopBrake b s).lines.stopHold = b.holding ∧
      ((setStopBrake b s).source .stopBrake).active = (b != .released) := by
  refine ⟨by simp [setStopBrake], by simp [setStopBrake], ?_⟩
  simp only [setStopBrake, reportSource_source, if_true]

/-- The member is added or removed, and a set that becomes non-empty makes the target 0 (R34, R36). -/
theorem setHold_sets (k : HoldReason) (b : Bool) (s : State) :
    (∀ j, (setHold k b s).rse.holds.has j = if j = k then b else s.rse.holds.has j) ∧
      (setHold k b s).rse.target =
        (if s.rse.holds.isEmpty && !(s.rse.holds.put k b).isEmpty then 0 else s.rse.target) :=
  ⟨fun _ => HoldSet.has_put .., rfl⟩

theorem filter_of_not_any {α : Type} (p : α → Bool) (l : List α) (h : l.any p = false) :
    l.filter (fun x => !p x) = l := by
  rw [List.filter_eq_self]
  intro x hx
  have := List.any_eq_false.mp h x hx
  simpa using this

/-- A cancel leaves the queue without the entry of its kind and unit, in its order, whether or not there was one (R135). -/
theorem cancel_cft (k : ExpKey) (s : State) : (cancel k s).cft = dropKey k s.cft := by
  unfold cancel
  split
  · rfl
  · next h => exact (filter_of_not_any _ _ (by simpa [State.expects] using h)).symm

/-- After an entry is dropped, exactly the others are still awaited. -/
theorem expects_dropKey (k j : ExpKey) (q : List Expectation) (s : State) (h : s.cft = dropKey k q) :
    s.expects j = (decide (j ≠ k) && q.any fun e => e.key == j) := by
  unfold State.expects
  rw [h, dropKey, List.any_filter]
  clear h
  by_cases e : j = k
  · subst e; simp
  · induction q with
    | nil => simp
    | cons a q ih =>
      simp only [List.any_cons, ne_eq, e, not_false_eq_true, decide_true, Bool.true_and] at ih ⊢
      by_cases f : a.key = j
      · subst f; simp [e]
      · have f' : (a.key == j) = false := by simpa using f
        simp [f', ih]

theorem reportFailed_req (k : ExpKey) (s : State) : (reportFailed k s).bdu.req = s.bdu.req := by
  unfold reportFailed
  split
  · simp
  all_goals
    unfold stopBrakeFailed
    split <;> simp [setStopBrake]

theorem setLevel_bdu (m : LevelMode) (s : State) : (setLevel m s).bdu = s.bdu := by
  unfold setLevel setTargets; simp

theorem checkLowered_bdu (s : State) : (checkLowered s).bdu = s.bdu := by
  unfold checkLowered enterKnelt settleCorners markIncomplete
  (repeat' split) <;> simp

theorem enterLowering_bdu (s : State) : (enterLowering s).bdu = s.bdu := by
  unfold enterLowering forceActive
  dsimp only
  split
  · simp [checkLowered_bdu, setLevel_bdu]
  · simp [setLevel_bdu]

/-- The end of the almost-full condition is no business of the brake unit (R139). -/
theorem almostFullEnded_bdu (s : State) : (almostFullEnded s).bdu = s.bdu := by
  unfold almostFullEnded evalKneelGate withDcm urgentDcm
  dsimp only
  (repeat' split) <;> simp [enterLowering_bdu]

theorem supersedeStep_bdu (k : ExpKey) (s : State) : (supersedeStep k s).bdu = s.bdu := by
  unfold supersedeStep
  dsimp only
  split <;> simp [almostFullEnded_bdu]

theorem place_req (k : ExpKey) (ms : Nat) (s : State) : (place k ms s).bdu.req = s.bdu.req := by
  unfold place
  dsimp only
  split
  · simp [reportFailed_req, supersedeStep_bdu]
  · simp [supersedeStep_bdu]

theorem enterApplying_req (s : State) : (enterApplying s).bdu.req = s.bdu.req := by
  simp [enterApplying, urgentBac, place_req, setStopBrake]

theorem enterReleasing_req (s : State) : (enterReleasing s).bdu.req = s.bdu.req := by
  simp [enterReleasing, place_req, setStopBrake]

/-- A request adds or removes its member and no other, whatever it does to the stop-brake state (R67). -/
theorem request_req (k : Requester) (b : Bool) (s : State) : (request k b s).bdu.req = s.bdu.req.put k b := by
  have self (b : Bool) (h : s.bdu.req.has k = b) : s.bdu.req.put k b = s.bdu.req := by
    revert h; cases k <;> (simp only [ReqSet.has, ReqSet.put]; intro h; cases h; rfl)
  have first (t : State) : (firstRequester t).bdu.req = t.bdu.req := by
    unfold firstRequester
    split
    · split
      · exact enterApplying_req t
      · simp [setStopBrake]
    · simp [enterApplying_req]
    · rfl
  have last (t : State) : (lastRequester t).bdu.req = t.bdu.req := by
    unfold lastRequester
    split <;> simp [enterReleasing_req, setStopBrake]
  unfold request
  cases b with
  | true =>
    simp only [if_true, addReq]
    split
    · next h => exact (self true h).symm
    · split
      · rw [first]; rfl
      · rfl
  | false =>
    simp only [Bool.false_eq_true, if_false, removeReq]
    split
    · split
      · rw [last]; rfl
      · rfl
    · next h => exact (self false (by simpa using h)).symm

/-- An evaluation of a release gate leaves the door as it was, or releases it, which it does exactly when the door is PREPARING and
its gate holds (R113). -/
theorem evalGate_cases (d : Door) (s : State) :
    ((s.door d).state = .preparing ∧ s.releaseGate d = true ∧ evalGate d s = releaseDoor d s) ∨
      (¬((s.door d).state = .preparing ∧ s.releaseGate d = true) ∧ evalGate d s = s) := by
  unfold evalGate
  split
  · next h => exact .inl ⟨h.1, h.2, rfl⟩
  · next h => exact .inr ⟨h, rfl⟩

/-- An evaluation of the kneel gate enters LOWERING exactly when a kneel waits in RIDE and the gate holds (R94). -/
theorem evalKneelGate_cases (s : State) :
    (s.rhc.pending = .kneel ∧ s.rhc.kneel = .ride ∧ s.kneelGate = true ∧ evalKneelGate s = enterLowering s) ∨
      (¬(s.rhc.pending = .kneel ∧ s.rhc.kneel = .ride ∧ s.kneelGate = true) ∧ evalKneelGate s = s) := by
  unfold evalKneelGate
  split
  · next h => exact .inl ⟨h.1, h.2.1, h.2.2, rfl⟩
  · next h => exact .inr ⟨h, rfl⟩

/-- A block's event is its handling, then an urgent DCM where the door actions changed, then the end of the almost-full condition
where the handling brought it (R108, R138, R139). -/
theorem blockEvent_cases (g : State → State) (s : State) :
    let t := if (g s).doorActions = s.doorActions then g s else urgentDcm (g s)
    (s.almostFull = true ∧ t.almostFull = false ∧ blockEvent g s = almostFullEnded t) ∨
      ((s.almostFull = false ∨ t.almostFull = true) ∧ blockEvent g s = t) := by
  intro t
  have e : withDcm g s = t := rfl
  unfold blockEvent
  simp only [e]
  cases s.almostFull <;> cases t.almostFull <;> simp

/-! ### Timers, deadlines and events that come too early (R2) -/

@[simp] theorem Timer.ended_stopped (now : Nat) : Timer.stopped.ended now = false := rfl

@[simp] theorem Timer.ended_running (now due : Nat) : (Timer.running due).ended now = decide (due ≤ now) := rfl

@[simp] theorem DwellTimer.ended_running (now due : Nat) : (DwellTimer.running due).ended now = decide (due ≤ now) := rfl

/-- Only a running timer comes to its end. -/
theorem Timer.isRunning_of_ended {t : Timer} {now : Nat} (h : t.ended now = true) : t.isRunning = true := by
  cases t with
  | stopped => cases h
  | running _ => rfl

theorem DwellTimer.isRunning_of_ended {t : DwellTimer} {now : Nat} (h : t.ended now = true) : t.isRunning = true := by
  cases t with
  | running _ => rfl
  | stopped => cases h
  | expired => cases h

/-- An overdue entry stands in the queue. -/
theorem State.expects_of_overdue {s : State} {k : ExpKey} (h : s.overdue k = true) : s.expects k = true := by
  rcases List.any_eq_true.mp h with ⟨e, he, hk⟩
  exact List.any_eq_true.mpr ⟨e, he, ((Bool.and_eq_true _ _).mp hk).1⟩

/-- The expiry of a deadline with time left, or of none, does nothing. -/
theorem expire_of_not_overdue {s : State} {k : ExpKey} (h : s.overdue k = false) : expire k s = s := by
  simp [expire, h]

/-! ### Signals, corners and the supersession step -/

/-- A signal whose binding the signal monitor does not act on is LOST (R7). -/
theorem Sgm.reading_of_not_acts {m : Sgm} {g : Sig} (h : m.acts g = false) : (m.reading g).quality = .lost := by
  simp only [Sgm.reading, h]
  split
  · rfl
  · split <;> rfl

/-- What follows a change of the corners is the kneel gate alone unless a corner has changed its state (R94, R96). -/
theorem cornersChanged_cases (before s : State) :
    (before.cornerStates = s.cornerStates ∧ cornersChanged before s = evalKneelGate s) ∨
    (before.cornerStates ≠ s.cornerStates ∧ cornersChanged before s = evalKneelGate (checkComplete s)) := by
  unfold cornersChanged
  split
  · exact .inl ⟨‹_›, rfl⟩
  · exact .inr ⟨‹_›, rfl⟩

/-- The supersession step removes the older entry, if there is one, and reports the end of the almost-full condition if that ends it
(R133, R139). -/
theorem supersedeStep_cases (k : ExpKey) (s : State) :
    (supersedeStep k s = supersede k s ∧ ¬(s.almostFull = true ∧ (supersede k s).almostFull = false)) ∨
    (s.almostFull = true ∧ (supersede k s).almostFull = false ∧ supersedeStep k s = almostFullEnded (supersede k s)) := by
  unfold supersedeStep
  cases h1 : s.almostFull <;> cases h2 : (supersede k s).almostFull <;> simp [h2]

end Sys2Proof.Machine
end

