-- ==== Sys2Proof/Tests/Slice0.lean ====
section
/-! SUPPORT. The tests: the smoke test of well-formedness, the worked examples of the manual, one step each, and a witness for each
statement that has hypotheses. The expected values are those of the manual's examples and tables, named at each test. -/

namespace Sys2Proof.Tests

set_option Elab.async false

open Sys2Proof.Machine Sys2Proof.Safety

/-! ### Helpers -/

/-- The state a command leaves. -/
def after (c : Instr) (s : State) : State :=
  match exec c s with
  | .next t => t
  | .fault _ => s
  | .refused _ => s

/-- The state `ms` milliseconds later, with nothing done in between. -/
def later (ms : Nat) (s : State) : State := s.setNow (s.now + ms)

/-- The bytes of the frame a port's transmitter sends. -/
def sending (p : PortId) (s : State) : List Nat :=
  match (s.port p).tx with
  | some t => t.frame.payload.map (·.toNat)
  | none => []

/-- A frame that carries a value in its first two bytes. -/
def valueFrame (v : Int) : Frame := ⟨.base, 0x120, i2 v⟩

/-- The channel of a signal in these tests: its number. -/
def chan (g : Sig) : Fin 48 := ⟨g.num.val, by have := g.num.isLt; omega⟩

/-- A signal bound to a channel that holds a value, FRESH. -/
def withSignal (g : Sig) (v : Int) (s : State) : State :=
  s.setSgm ⟨s.sgm.channels.set (chan g) (some ⟨⟨g, .primary, 0, true, true, 0, none, none, 50, .accept, none⟩,
      ⟨.fresh, some v, 0, 1, .running (s.now + 50), .running (s.now + 150), none⟩⟩),
    s.sgm.bindings.set g.num ⟨some ⟨chan g, none, false, .revert, none⟩, .start⟩⟩

/-- A value of a signal arrives. -/
def arrive (g : Sig) (v : Int) (s : State) : State := tapFrame (chan g) (valueFrame v) s

/-- The profile of the worked case of section 2.6: four breakpoints, bounded at [-1500, 1500]. -/
def casePoints : Profile :=
  { n := 4, lo := -1500, hi := 1500, bounded := true, valid := true
    points := (((Profile.zero.points.set 0 ⟨0, -8192, 0⟩).set 1 ⟨1500, -8192, 22370⟩).set 2 ⟨3000, 0, 0⟩).set 3 ⟨12000, 0, 0⟩ }

/-- Profile 1 of the crossfade example: unbounded, the gain -0.25 at every speed. -/
def flatPoints : Profile :=
  { Profile.zero with n := 2, valid := true, points := (Profile.zero.points.set 0 ⟨0, -4096, 0⟩).set 1 ⟨12000, -4096, 0⟩ }

/-- A door that has reported its status. -/
def knownDoor : DoorRec := { DoorRec.start with statusUnknown := false }

/-- The part in RUN with the bus free to drive: doors LOCKED and known, the stop brake RELEASED, the air state OK. -/
def driving : State :=
  { State.reset with
    mode := .run
    rse := { Rse.cold with
      holds := ⟨false, false, false, false, false, false⟩, profiles := (Rse.cold.profiles.set 0 casePoints).set 1 flatPoints }
    bdu := { Bdu.start ⟨450, 600, 500⟩ with req := ⟨false, false, false, false, false, false⟩, stopBrake := .released }
    rhc := { Rhc.start coldOffsets with airOk := true, airEstimate := 12000 }
    dic := ⟨coldDoors, ⟨knownDoor, knownDoor, knownDoor, knownDoor⟩, .off⟩
    tic := ⟨Vector.replicate 12 ⟨false, 0⟩, .permitted, .stopped⟩
    lines := ⟨false, true⟩ }

/-- The bus of the worked case of section 2.6 before the FWA value arrives: 20 km/h, the trace of 41 samples every 30 cm. -/
def following : State :=
  let s := withSignal .odo 40110 (withSignal .fwa 1111 (withSignal .art 0 (withSignal .vsp 2000 driving)))
  s.setRse { s.rse with
    odoNow := some 40110, issued := -400
    trace := (List.range 41).map fun i => ⟨BitVec.ofNat 16 (38890 + 30 * i), 1200 + 100 * (i : Int)⟩ }

/-- A door in a state with an action. -/
def withDoor (d : Door) (st : DoorState) (a : DoorAction) (s : State) : State :=
  s.putDoor d { knownDoor with state := st, action := a, relPending := st == .preparing }

/-- The response buffer occupied. -/
def busyResponse (s : State) : State := s.setSvr { s.svr with response := some (valueFrame 0) }

/-- A transmission under way on a port. -/
def transmitting (p : PortId) (detached : Bool) (s : State) : State :=
  s.setPort p { s.port p with tx := some ⟨valueFrame 0, .forward, detached⟩ }

/-! ### Well-formedness (spec/00_scope.md, "Connections") -/

theorem test_wellFormed_base_ident_of_twelve_bits_refused :
    (Instr.frameReception .cab ⟨.base, 2048, []⟩).wellFormed = false := by decide

theorem test_wellFormed_payload_of_65_bytes_refused :
    (Instr.frameReception .cab ⟨.extended, 5, List.replicate 65 0⟩).wellFormed = false := by decide

theorem test_wellFormed_largest_frames :
    (Instr.frameReception .cab ⟨.base, 2047, List.replicate 64 0⟩).wellFormed = true ∧
    (Instr.frameReception .chassis ⟨.extended, 0x1FFFFFFF, []⟩).wellFormed = true := by decide

/-- spec/98_reader.md: no row has bits. -/
theorem test_no_word_spells_a_command : decodeTableWord 8 0 = none ∧ State.reset.withFetchWord 8 0 = State.reset := ⟨rfl, rfl⟩

/-! ### Arithmetic (spec/00_scope.md, "Rounding"; the worked cases of chapters 2 and 3) -/

theorem test_rounding : roundDiv 5 2 = 3 ∧ roundDiv (-5) 2 = -3 ∧ roundDiv 2000 30 = 67 ∧ roundDiv (-6919087) 16384 = -422 := by
  decide

/-- The wrap of the distance count (example of section 2.1). -/
theorem test_behind_distance_wraps : distBehind 500 64836 = 1200 := by decide

/-! ### Signals (chapter 1) -/

/-- The channel of the example of section 1.5. -/
def exampleCfg : ChanCfg := ⟨.vsp, .primary, 0, true, false, 0, some 2, some 3, 50, .accept, none⟩

/-- Its frame with an alive value and a value. -/
def exampleFrame (alive v : Nat) : List Byte := let q := b2 v ++ b1 alive; q ++ [checkFor q]

/-- At t 60: alive 4 where 5 is expected is a repeat error. -/
theorem test_repeated_frame_refused :
    judgeArrival exampleCfg (exampleFrame 4 1215) (some 5) {} = ⟨some 5, { repeatErrors := 1 }, none⟩ := by decide

/-- At t 200: alive 9 is a sequence error, taken under ACCEPT, and 10 is expected next. -/
theorem test_sequence_error_accepted :
    judgeArrival exampleCfg (exampleFrame 9 1180) (some 5) {} =
      ⟨some 10, { accepted := 1, sequenceErrors := 1 }, some 1180⟩ := by decide

/-- A wrong check byte comes first (t 40). -/
theorem test_check_error :
    judgeArrival exampleCfg [0, 0, 5, 0] (some 5) {} = ⟨some 5, { checkErrors := 1 }, none⟩ := by decide

/-- At t 200 to 240 the channel goes STALE, SUSPECT, SUSPECT, FRESH with the run at 1, 2, 3. -/
theorem test_channel_recovers :
    let r0 : ChanRun := ⟨.stale, some 1210, 2, 0, .stopped, .stopped, some 5⟩
    let r1 := r0.take 1180 .stopped .stopped
    let r2 := r1.take 1190 .stopped .stopped
    let r3 := r2.take 1200 .stopped .stopped
    (r1.state, r1.goodRun, r2.state, r2.goodRun, r3.state, r3.goodRun) = (.suspect, 1, .suspect, 2, .fresh, 3) := by decide

/-- Rows a1 to a6 of the example of section 1.7. -/
theorem test_disagreement :
    let r0 := BindRun.start
    let r1 := r0.compare 150 1200 1020 1200
    let r2 := r1.compare 150 1220 1040 1220
    let r3 := r2.compare 150 1250 1050 1250
    let r4 := r3.compare 150 1240 1150 1250
    let r5 := r4.compare 150 1230 1160 1250
    let r6 := r5.compare 150 1220 1170 1250
    (r2.disagree, r3.disagree, r3.held, r4.matchRun, r5.disagree, r6.disagree) =
      (false, true, some 1250, 1, true, false) := by decide

/-- Raw ODO 100 with bias 300 is 65336 modulo 65536; raw VSP above its range is clamped; GEAR 3 is refused (R8, R11, R14). -/
theorem test_out_of_range_handling :
    (⟨.odo, .primary, 0, true, false, 300, none, none, 50, .accept, none⟩ : ChanCfg).value (b2 100) = 65336 ∧
    rangeTest .vsp 13000 = .clamped 12000 ∧ rangeTest .gear 3 = .refused := by decide

/-- FRESHNESS_TIMER_EXPIRY: FRESH to SUSPECT, the quality HELD (12.4, t 30), once the 50 ms have passed (R2). -/
theorem test_freshness_expiry :
    (after (.freshnessTimerExpiry (chan .fwa)) (later 50 following)).reading .fwa = ⟨1111, .held⟩ ∧
    (after (.freshnessTimerExpiry (chan .fwa)) (later 49 following)).reading .fwa = ⟨1111, .good⟩ := by decide +kernel

/-- STALE_TIMER_EXPIRY: SUSPECT to STALE, FWA LOST, INPUT joins and the target becomes 0 (12.4, last paragraph). -/
theorem test_stale_expiry :
    let s := after (.freshnessTimerExpiry (chan .fwa)) (later 150 following)
    let t := after (.staleTimerExpiry (chan .fwa)) (s.setRse { s.rse with target := -300 })
    (t.isLost .fwa, t.rse.holds.input, t.rse.target, t.steerMode) = (true, true, 0, .centreHold) := by decide +kernel

/-! ### Steering (chapter 2) -/

/-- The worked case of section 2.6: the follow angle 1267, the gain -5461, the product -422. -/
theorem test_worked_case :
    following.followAngle 1111 = 1267 ∧ casePoints.gainAt 2000 = -5461 ∧ casePoints.product 1267 2000 = -422 := by
  decide +kernel

/-- The arrival sets the target -422; a sample 20 cm behind is no reason to append. -/
theorem test_fwa_arrival :
    let t := arrive .fwa 1111 following
    (t.rse.target, t.rse.trace.length) = (-422, 41) := by decide +kernel

/-- The crossfade example: the targets -396, -369, -343 and -317 at four computations, then profile 1 is active. -/
theorem test_crossfade :
    let s0 := after (.profileSelect 0 1 64) following
    let s1 := computeTarget 1111 s0
    let s2 := computeTarget 1111 s1
    let s3 := computeTarget 1111 s2
    let s4 := computeTarget 1111 s3
    ([s1, s2, s3, s4].map (·.rse.target), s3.rse.active, s4.rse.active, s4.ctr.rse.crossfades) =
      ([-396, -369, -343, -317], 0, 1, 1) := by decide +kernel

/-- SLOT_ARRIVAL with RSC due: the setpoint steps from -400 to -420 towards -422, and the payload sums to 0xFF (R47, R180). -/
theorem test_rsc_build :
    let s := following.setRse { following.rse with target := -422 }
    let t := after .slotArrival (s.setTxs { s.txs with table := s.txs.table.set 0 (some ⟨0, 1, 0, .rsc, .base, 0x210⟩) })
    t.rse.issued = -420 ∧ (sending .chassis t).take 5 = [0xFE, 0x5C, 2, 0, 0] ∧ (sending .chassis t).sum % 256 = 255 := by
  decide +kernel

/-- An advance of 900 cm is a discontinuity (example of section 2.1). -/
theorem test_trace_discontinuity :
    let t := moveOdo 1400 (following.setRse { following.rse with odoNow := some 500 })
    (t.rse.trace, t.ctr.rse.discontinuities) = ([], 1) := by decide +kernel

/-! ### Brakes (chapter 3) -/

/-- The cold ratios of R80. -/
theorem test_cold_ratios : [Axle.f, .m, .r].map State.reset.ratio = [891, 1189, 990] := by decide

/-- The bus of the worked case of section 3.3. -/
def sharing (jackknife : Bool) : State :=
  (driving.setBdu { driving.bdu with demand := 400, backup := false, weights := ⟨420, 610, 530⟩ }).setRse
    { driving.rse with jackknife := jackknife }

theorem test_brake_sharing :
    [Axle.f, .m, .r].map (sharing true).brakeTarget = [323, 469, 457] ∧ (sharing false).brakeTarget .r = 407 := by decide

/-- Light pedal at a stop (example of section 3.4): targets 81, 250, 250 with causes SERVICE, STOP, STOP. -/
theorem test_causes_at_a_stop :
    let s := (sharing false).setBdu { (sharing false).bdu with demand := 100, stopBrake := .applied, req := ⟨true, false, false, false, false, false⟩ }
    [Axle.f, .m, .r].map s.brakeTarget = [81, 250, 250] ∧ [Axle.f, .m, .r].map s.brakeCause = [.service, .stop, .stop] := by
  decide

/-! ### Ride height (chapter 4) -/

/-- The samples of the example of section 4.2: -35 sizes RAISE 88, -7 sizes 20 after the clamp. -/
theorem test_pulses : (State.reset.freshPulse 35, State.reset.freshPulse 7) = (⟨.raise, 88⟩, ⟨.raise, 20⟩) := by decide

/-- The air estimate of the example of section 4.3: RAISE 300 and 200 from 10848 leave 8848 and the air state LOW. -/
theorem test_air_after_build :
    let s := driving.setRhc { driving.rhc with
      airEstimate := 10848
      corners := { driving.rhc.corners with
        rl := ⟨.active, 0, 0, .stopped, some ⟨.raise, 300⟩⟩, rr := ⟨.active, 0, 0, .stopped, some ⟨.raise, 200⟩⟩ } }
    let t := (valveContents .rl .rr s).2
    (t.rhc.airEstimate, t.rhc.airOk, t.rhc.corners.rl.pulse, t.lines.tractionPermit) = (8848, false, none, false) := by
  decide +kernel

/-- A bus that lowers, with its kneel timer running. -/
def lowering : State :=
  driving.setRhc { driving.rhc with kneel := .lowering, level := .kneel, kneelTimer := .running 8000 }

theorem test_kneel_timer : (after .kneelTimerExpiry (later 8000 lowering)).rhc.kneel = .knelt := by decide +kernel

/-- A bus that raises, with its raise timer running. -/
def raising : State := driving.setRhc { driving.rhc with kneel := .raising, raiseTimer := .running 10000 }

theorem test_raise_timer : (after .raiseTimerExpiry (later 10000 raising)).rhc.fault = true := by decide +kernel

/-- A corner in WAKE with its timer running. -/
def waking : State := driving.putCorner .mr ⟨.wake, 0, 0, .running 500, none⟩

theorem test_wake_timer : ((after (.wakeTimerExpiry .mr) (later 500 waking)).corner .mr).state = .active := by decide +kernel

/-! ### Doors (chapter 5) and the tracker (chapter 6) -/

/-- 12.1, t 0: the release button of door 3 makes it PREPARING, the stop brake APPLYING, and traction INHIBITED. -/
theorem test_release_button :
    let t := arrive .drq 4 (withSignal .drq 0 (withSignal .vsp 0 driving))
    ((t.door .d3).state, t.bdu.stopBrake, t.cft, t.rse.holds.door, t.lines) =
      (.preparing, .applying, [⟨.stopApply, 1500⟩], true, ⟨true, false⟩) := by decide +kernel

/-- A bus that stands with the stop brake APPLIED for a door. -/
def standing : State :=
  let s := withSignal .rsa (-25) (withSignal .vsp 0 driving)
  (s.setBdu { s.bdu with stopBrake := .applied, req := ⟨true, false, false, false, false, false⟩ }).setLines ⟨true, false⟩

/-- The prep timer's expiry returns the door to LOCKED (R114). -/
theorem test_prep_timer :
    let s := (withDoor .d1 .preparing .none standing).putDoor .d1
      { knownDoor with state := .preparing, relPending := true, prep := .running 3000 }
    let t := after (.prepTimerExpiry .d1) (later 3000 s)
    ((t.door .d1).state, (t.ctr.dic.get .d1).prepTimeouts, t.bdu.stopBrake) = (.locked, 1, .releasing) := by decide +kernel

/-- 12.1, t 10000: the dwell timer's expiry makes the door CLOSING with WARN. -/
theorem test_dwell_timer :
    let s := (withDoor .d3 .opened .permit standing).putDoor .d3
      { knownDoor with state := .opened, action := .permit, dwell := .running 10000 }
    let t := after (.dwellTimerExpiry .d3) (later 10000 s)
    ((t.door .d3).state, (t.door .d3).action, (t.door .d3).warn) = (.closing, .warn, .running 11500) := by decide +kernel

/-- 12.1, t 11500: the withdrawal places DOOR_LOCK(3) for 4000 ms. -/
theorem test_warn_timer :
    let s := standing.putDoor .d3 { knownDoor with state := .closing, action := .warn, warn := .running 0, dwell := .expired }
    let t := after (.warnTimerExpiry .d3) s
    ((t.door .d3).action, t.cft) = (.withdraw, [⟨.doorLock .d3, 4000⟩]) := by decide +kernel

/-- The stop brake APPLYING with its expectation. -/
def applying : State :=
  (standing.setBdu { standing.bdu with stopBrake := .applying, req := ⟨false, true, false, false, false, false⟩ }).setCft
    [⟨.stopApply, 1500⟩]

/-- 12.3, t 1500: the deadline expires, the stop brake is FAULT and STOP_HOLD stays high. -/
theorem test_deadline :
    let t := after (.deadlineExpiry .stopApply) (later 1500 applying)
    (t.bdu.stopBrake, t.ctr.bdu.applyFaults, t.cft, t.lines.stopHold) = (.fault, 1, [], true) := by decide +kernel

/-! ### Traction (chapter 7) -/

/-- The torque request of section 7.3. -/
def torqueFrame : Frame := ⟨.base, 0x0A0, [0x10, 0, 0x04, 0xB0, 0, 0, 0x37, 0x04]⟩

/-- JACKKNIFE ACTIVE in PERMITTED. -/
def limited : State := reportSource .jackknife true driving

/-- GAP, with the timer running. -/
def inGap : State := (driving.setTic { driving.tic with combined := .gap, gapTimer := .running 500 }).setLines ⟨false, false⟩

theorem test_torque_request :
    (rewriteTorque torqueFrame 2 7 driving).1.map (·.payload) = some torqueFrame.payload ∧
    (rewriteTorque torqueFrame 2 7 limited).1.map (·.payload) = some [0x10, 0, 0x03, 0x20, 0, 0, 0x37, 0x95] ∧
    (rewriteTorque torqueFrame 2 7 inGap).1.map (·.payload) = some [0x10, 0, 0, 0, 0, 0, 0x37, 0xB8] := by decide +kernel

theorem test_release_gap : (after .releaseGapExpiry (later 500 inGap)).lines.tractionPermit = true := by decide

/-- INHIBIT_SET makes MGMT ACTIVE and drops TRACTION_PERMIT; INHIBIT_CLEAR of an INACTIVE source changes nothing (R151). -/
theorem test_inhibit_set :
    let t := after (.inhibitSet 1) driving
    (t.lines.tractionPermit, (t.source .mgmt).active, t.tic.combined) = (false, true, .inhibited) ∧
    (after (.inhibitClear 1) driving).tic = driving.tic := by decide +kernel

/-! ### Frame path (chapter 8) -/

/-- The frames of the example of section 8.3: `d` clashes with RSC on the chassis port, `f` meets default DROP, `g` default PASS. -/
def routing : State :=
  let s := driving.setTxs { driving.txs with table := driving.txs.table.set 0 (some ⟨0, 1, 0, .rsc, .base, 0x210⟩) }
  (s.setParams (s.params.set .defaultChassis 1)).setRoutes
    (s.routes.set 1 (some ⟨.cab, .base, 0x0A0, 0x7FF, .rewrite 2 7⟩))

/-- A state whose receive queue on a port holds one frame. -/
def received (p : PortId) (f : Frame) (s : State) : State := s.setPort p { s.port p with receive := [f] }

theorem test_classification_dropped :
    (after (.frameClassification .chassis) (received .chassis ⟨.base, 0x210, []⟩ routing)).ctr.frt.chassis.clash = 1 ∧
    (after (.frameClassification .cab) (received .cab ⟨.base, 0x400, []⟩ routing)).ctr.frt.cab.dropped = 1 := by decide +kernel

theorem test_classification_forwarded :
    (after (.frameClassification .chassis) (received .chassis ⟨.base, 0x401, []⟩ routing)).ctr.frt.chassis.forwarded = 1 ∧
    sending .chassis (after (.frameClassification .cab) (received .cab torqueFrame routing)) = [16, 0, 4, 176, 0, 0, 55, 4] := by
  decide +kernel

theorem test_reception_overflow :
    let s := State.reset.setPort .cab { Port.cold with receive := List.replicate 32 (valueFrame 0) }
    let t := after (.frameReception .cab (valueFrame 1)) s
    (t.ports.cab.receive.length, t.ctr.frt.cab.rxOverflow, t.ctr.frt.cab.received) = (32, 1, 1) := by decide +kernel

/-- The chassis port at its eighth abandonment (example of section 8.6, t 40): 8 and 5 frames abandoned, DOWN. -/
theorem test_port_goes_down :
    let f := valueFrame 0
    let s0 := (State.reset.setPort .chassis { Port.cold with
      forward := [f, f, f], scheduled := some f, abandons := 7, tx := some ⟨f, .forward, false⟩ }).setUrgent [f]
    let s := s0.countPort .chassis fun k => { k with txAbandoned := 7 }
    let t := after (.transmissionEnd .chassis .abandoned) s
    (t.ports.chassis.up, t.ports.chassis.abandons, t.ctr.frt.chassis.txAbandoned, t.ports.chassis.recovery) =
      (false, 8, 13, .running 200) := by decide +kernel

/-- The recovery timer's expiry, and the next frame placed taken as the retry (t 240, 241). -/
theorem test_retry :
    let s := State.reset.setPort .chassis { Port.cold with up := false, abandons := 8, recovery := .running 200 }
    let t := after (.recoveryTimerExpiry .chassis) (later 200 s)
    (t.ports.chassis.retryReady, (placeFrame .chassis .forward (valueFrame 3) t).ports.chassis.tx.isSome) = (true, true) := by
  decide +kernel

/-! ### Service (chapter 10 and 11) -/

theorem test_cold_reset : (after .coldReset driving).lines = ⟨false, false⟩ ∧ (after .coldReset driving).mode = .config := by
  decide +kernel

/-- The cold IDENTIFY: 0x3624, CONFIG, the two identifiers, no table, no snapshot, no commit (R200, R207). -/
theorem test_identify :
    sending .cab (after (.identify 7) State.reset) =
      [0x81, 7, 0, 0x36, 0x24, 0, 0x9C, 0x4E, 0x0A, 0x10, 0x9C, 0x4E, 0x0A, 0x11, 255, 255, 255, 0, 0, 0, 0, 255, 255, 255] := by
  decide +kernel

/-- With nothing loaded the commit validation fails at step 3: table 3, kind 0 (R194). -/
theorem test_mode_request : sending .cab (after (.modeRequest 7 1) State.reset) = [0x82, 7, 12, 3, 0, 0] := by decide +kernel

theorem test_param_read :
    sending .cab (after (.paramRead 1 17) State.reset) = [0x83, 1, 0, 0, 0, 0x04, 0xB0] ∧
    sending .cab (after (.paramRead 1 15) State.reset) = [0x83, 1, 7] := by decide +kernel

theorem test_param_write :
    (after (.paramWrite 1 17 2000) State.reset).par .lag = 2000 ∧
    sending .cab (after (.paramWrite 1 17 2001) State.reset) = [0x84, 1, 8] := by decide +kernel

theorem test_table_open :
    (after (.tableOpen 1 8 3) State.reset).svr.pointer = some (.profile 0, 3) ∧
    sending .cab (after (.tableOpen 1 6 0) State.reset) = [0x85, 1, 6] := by decide +kernel

/-- A part with a table open. -/
def opened (t : TableId) (i : Nat) (s : State) : State := s.setSvr { s.svr with pointer := some (t, i) }

/-- Door 4 written REAR, auto-kneel YES, FIXED, 5000 ms (R106, R209). -/
theorem test_table_write :
    (after (.tableWrite 1 #v[1, 1, 1, 0x13, 0x88, 0, 0, 0, 0, 0, 0, 0, 0, 0, 0, 0]) (opened .door 3 State.reset)).dic.table.d4 =
      ⟨.rear, true, .fixed, 5000⟩ := by decide +kernel

/-- The kneel offset of FR is -70 after a cold reset (R89). -/
theorem test_table_read :
    sending .cab (after (.tableRead 1) (opened .kneelOffset 1 State.reset)) =
      [0x87, 1, 0, 0xFF, 0xBA, 0, 0, 0, 0, 0, 0, 0, 0, 0, 0, 0, 0, 0, 0] := by decide +kernel

/-- An empty profile fails its validation at the header: table 8, record 0 (R40, R198). -/
theorem test_table_close :
    sending .cab (after (.tableClose 1) (opened (.profile 0) 0 State.reset)) = [0x88, 1, 12, 8, 0, 0] ∧
    sending .cab (after (.tableClose 1) State.reset) = [0x88, 1, 9] := by decide +kernel

theorem test_profile_select_outside_run : sending .cab (after (.profileSelect 1 1 64) State.reset) = [0x89, 1, 3] := by
  decide +kernel

/-- STATE_READ(CFT): occupancy 1, not almost full, STOP_APPLY placed by BDU with 1500 ms left (R140). -/
theorem test_state_read :
    sending .cab (after (.stateRead 1 5 0) applying) = [0x8A, 1, 0, 0, 1, 0, 1, 0, 1, 0, 0, 0x05, 0xDC] ∧
    sending .cab (after (.stateRead 1 10 0) applying) = [0x8A, 1, 8] := by decide +kernel

/-- STATE_READ(TIC) after a cold reset: STOP_BRAKE, MODE, DOOR_STATUS_LOST, AIR_LOW and SPEED_LOST are ACTIVE (R155), and ACTIVE is 0
(R207); the enable mask is 15 and the combined state INHIBITED. -/
theorem test_state_read_traction :
    (sending .cab (after (.stateRead 1 6 0) State.reset)).take 17 =
      [0x8A, 1, 0, 1, 1, 0, 1, 0, 0, 0, 0, 1, 1, 1, 1, 15, 0] := by decide +kernel

theorem test_snapshot : sending .cab (after (.snapshot 1) State.reset) = [0x8B, 1, 0, 0, 1] := by decide +kernel

theorem test_counter_read_without_snapshot : sending .cab (after (.counterRead 1 9 0) State.reset) = [0x8C, 1, 5] := by
  decide +kernel

/-- COUNTER_CLEAR of the tracker sets the peak to the occupancy (R141). -/
theorem test_counter_clear : (after (.counterClear 1 5) applying).ctr.cft.peak = 1 := by decide +kernel

/-- FAULT_CLEAR(RSE) at standstill with RSA within centre_band (R52). -/
theorem test_fault_clear_rse :
    (after (.faultClearRse 1) (latchSteerFault standing)).rse.fault = false ∧
    sending .cab (after (.faultClearRse 1) (latchSteerFault following)) = [0x8E, 1, 4] := by decide +kernel

theorem test_fault_clear_rhc :
    (after (.faultClearRhc 1) (after .raiseTimerExpiry (later 10000 raising))).rhc.raiseTimer = .running 20000 := by decide +kernel

/-- RESTART on a bus that stands: SERVICE, every table kept, the stop brake PENDING (R204, R80). -/
theorem test_restart :
    let t := after (.restart 1) standing
    (t.mode, t.bdu.stopBrake, t.rse.profiles[(0 : Fin 4)].valid) = (.service, .pending, true) ∧
    sending .cab (after (.restart 1) following) = [0x91, 1, 4] := by decide +kernel

/-- The part in SERVICE on a bus that stands. -/
def inService : State := (changeMode .service standing).setSvr standing.svr

theorem test_unit_reset_rse :
    (after (.unitResetRse 1) (latchSteerFault inService)).rse.fault = false ∧
    sending .cab (after (.unitResetRse 1) standing) = [0x92, 1, 3] := by decide +kernel

theorem test_unit_reset_rhc : ((after (.unitResetRhc 1) inService).corner .fl).state = .off := by decide +kernel

theorem test_unit_reset_sgm : (after (.unitResetSgm 1) inService).lostCount = 27 := by decide +kernel

theorem test_unit_reset_txs :
    (after (.unitResetTxs 1) (inService.setTxs { inService.txs with alive := Vector.replicate 7 5 })).txs.alive =
      Vector.replicate 7 0 := by decide +kernel


/-! ### Witnesses: states that meet the hypotheses of the statements

`drivingOn` meets every kept invariant at once but for the signals', and takes a step. -/

/-- The part driving, VSP at 20 km/h, with a command waiting. -/
def drivingOn : State := (withSignal .vsp 2000 driving).setPending [.slotArrival]

theorem witness_step : step drivingOn = .next (slotReached (withSignal .vsp 2000 driving)) ∧ drivingOn.pending ≠ [] ∧ State.reset.pending = [] :=
  ⟨rfl, by decide, rfl⟩

theorem witness_combined : CombinedSound drivingOn :=
  ⟨by decide +kernel, by decide +kernel, by decide +kernel⟩

theorem witness_traction : TractionSound drivingOn ∧ ∃ t, step drivingOn = .next t := by
  refine ⟨⟨?_, witness_combined⟩, _, rfl⟩
  intro k b h
  have e : (drivingOn.source k).active = false := by cases k <;> decide +kernel
  have c : ownerCondition drivingOn k = some false ∨ ownerCondition drivingOn k = none := by cases k <;> decide +kernel
  rcases c with c | c <;> rw [c] at h
  · rw [e]; exact Option.some.inj h
  · exact absurd h (by simp)

/-- PermitMeansMayDrive: the line is high in a sound state. -/
theorem witness_permit : TractionSound drivingOn ∧ drivingOn.lines.tractionPermit = true := ⟨witness_traction.1, rfl⟩

theorem witness_stop_brake : StopBrakeSound drivingOn ∧ ∃ t, step drivingOn = .next t :=
  ⟨⟨by decide +kernel, by decide +kernel, by decide +kernel, by decide +kernel, by decide +kernel, by decide +kernel,
    by decide +kernel⟩, _, rfl⟩

theorem witness_tracker : TrackerSound (applying.setPending [.slotArrival]) ∧
    ∃ t, step (applying.setPending [.slotArrival]) = .next t :=
  ⟨⟨by decide +kernel, by decide +kernel, by decide +kernel, by decide +kernel, fun d => by cases d <;> decide +kernel⟩, _, rfl⟩

theorem witness_hold : HoldSound drivingOn ∧ ∃ t, step drivingOn = .next t :=
  ⟨⟨by decide +kernel, by decide +kernel, by decide +kernel, by decide +kernel, by decide +kernel, by decide +kernel⟩, _, rfl⟩

theorem witness_steering : SteeringSound drivingOn ∧ ∃ t, step drivingOn = .next t := by
  refine ⟨⟨⟨by decide +kernel, ?_, by decide +kernel, by decide +kernel⟩,
    ⟨by decide +kernel, by decide +kernel, by decide +kernel, by decide +kernel, by decide +kernel, by decide +kernel⟩⟩, _, rfl⟩
  intro p i h
  have e : drivingOn.svr.pointer = none := rfl
  rw [e] at h; cases h

/-- The trace of three samples, 30 cm apart, at odo_now 90. -/
def traced : State :=
  (driving.setRse { driving.rse with odoNow := some 90, trace := [⟨20, 5⟩, ⟨50, 6⟩, ⟨80, 7⟩] }).setPending [.slotArrival]

theorem witness_trace : TraceSound traced ∧ ∃ t, step traced = .next t := by
  refine ⟨⟨by decide +kernel, by decide +kernel, by decide +kernel, by decide +kernel, ?_⟩, _, rfl⟩
  intro o h
  have e : o = 90 := (Option.some.inj h).symm
  subst e
  refine ⟨?_, ?_, ?_, trivial⟩
  · intro y hy; cases hy; decide +kernel
  · intro y hy; cases hy; decide +kernel
  · intro y hy; cases hy

/-- The cab port DOWN with its recovery timer running. -/
def portDown : State :=
  (State.reset.setPort .cab { Port.cold with up := false, abandons := 8, recovery := .running 200 }).setPending
    [.recoveryTimerExpiry .cab]

theorem witness_ports : PortsSound portDown ∧ ∃ t, step portDown = .next t := by
  refine ⟨⟨?_, ?_, by decide +kernel⟩, _, rfl⟩
  all_goals
    refine ⟨by decide +kernel, by decide +kernel, by decide +kernel, by decide +kernel, ?_, by decide +kernel, ?_,
      by decide +kernel, by decide +kernel, ?_, by decide +kernel⟩
  · intro h; exact absurd h (by decide +kernel)
  · intro _; exact (by decide +kernel : portDown.standing .cab = 0)
  · intro t _ h; exact absurd h (by rw [show (portDown.port .cab).tx = none from rfl]; exact fun x => by cases x)
  · intro _ _; exact (by decide +kernel : portDown.standing .chassis = 0)
  · intro h; exact absurd h (by decide +kernel)
  · intro t h; exact absurd h (by decide +kernel)

/-- VSP at the top of its range, and the air estimate at the top of its own. -/
def topValues : State := (withSignal .vsp 12000 (driving.setRhc { driving.rhc with airEstimate := 20800 })).setPending [.slotArrival]

theorem topValues_channel {c : Fin 48} {ch : Channel} (h : topValues.sgm.channels[c] = some ch) :
    ch.cfg.sig = .vsp ∧ ch.run.lastGood = some 12000 ∧ ch.run.errCount ≤ 255 ∧ ch.run.goodRun ≤ 255 ∧ ch.cfg.next = none := by
  have e : ∀ c : Fin 48, (topValues.sgm.channels[c]).all (fun x => decide (x.cfg.sig = .vsp ∧ x.run.lastGood = some 12000 ∧
      x.run.errCount ≤ 255 ∧ x.run.goodRun ≤ 255 ∧ x.cfg.next = none)) = true := by decide +kernel
  simpa [h] using e c

theorem topValues_binding (g : Sig) : (topValues.sgm.binding g).run = .start := by
  have e : ∀ n : Fin 27, (topValues.sgm.bindings[n]).run = .start := by decide +kernel
  exact e g.num

theorem topValues_sound : ValuesSound topValues where
  channels c ch v h1 h2 := by
    obtain ⟨h3, h4, -⟩ := topValues_channel h1
    rw [h4] at h2
    rw [h3, ← Option.some.inj h2]
    exact (by decide : (0 : Int) ≤ 12000 ∧ (12000 : Int) ≤ 12000)
  held g v h := by rw [topValues_binding g] at h; cases h
  air := by decide +kernel
  counts c ch h := ⟨(topValues_channel h).2.2.1, (topValues_channel h).2.2.2.1⟩
  runs g := by rw [topValues_binding g]; decide
  never c ch h1 h2 := by rw [(topValues_channel h1).2.1] at h2; cases h2
  flagged g h := by rw [topValues_binding g] at h; cases h
  chain c n ch h1 h2 := by rw [(topValues_channel h1).2.2.2.2] at h2; cases h2

theorem witness_values : ValuesSound topValues ∧ ∃ t, step topValues = .next t := ⟨topValues_sound, _, rfl⟩

theorem witness_doors : DoorsSound drivingOn ∧ ∃ t, step drivingOn = .next t :=
  ⟨fun d => by
    cases d <;> exact ⟨by decide +kernel, by decide +kernel, by decide +kernel, by decide +kernel, by decide +kernel,
      by decide +kernel, by decide +kernel, by decide +kernel⟩, _, rfl⟩

theorem witness_kneel : KneelSound (lowering.setPending [.kneelTimerExpiry]) ∧
    ∃ t, step (lowering.setPending [.kneelTimerExpiry]) = .next t :=
  ⟨⟨by decide +kernel, by decide +kernel, by decide +kernel, by decide +kernel, by decide +kernel, by decide +kernel,
    fun k => by cases k <;> decide +kernel, fun k => by cases k <;> decide +kernel⟩, _, rfl⟩

/-- ConfigurationChangesOnlyOnRequest: an event, a frame that is no request, and a request that is neither MODE_REQUEST nor
RESTART. -/
theorem witness_configuration :
    requestBytes .slotArrival = none ∧ (∃ t, exec .slotArrival driving = .next t) ∧
    requestBytes (.frameClassification .cab) = none ∧ driving.isRequest .cab torqueFrame = false ∧
    requestBytes (.identify 7) = some [0x01, 7] ∧ (∃ t, exec (.identify 7) driving = .next t) :=
  ⟨rfl, ⟨_, rfl⟩, rfl, by decide, rfl, _, rfl⟩

/-- FramePathBalances and TrackerBalances: a frame received, a deadline expired. -/
theorem witness_balances :
    clearsGroup 7 (.frameReception .cab torqueFrame) driving = false ∧
    (after (.frameReception .cab torqueFrame) driving).ctr.frt.cab.received = 1 ∧
    clearsGroup 5 (.deadlineExpiry .stopApply) applying = false ∧ (applying.cft.map (·.key)).Nodup ∧
    (∀ n ∈ (after (.deadlineExpiry .stopApply) applying).ctr.cft.toList, n < Config.hold16) := by decide +kernel

/-- SetpointMovesOnlyAtBuilds: a command other than the two, and slew at its least value, 1, and at 0. -/
theorem witness_setpoint :
    (∃ t, exec (.identify 7) following = .next t) ∧ (0 : Int) ≤ following.par .slew ∧
    (stepSetpoint ((following.setParams (following.params.set .slew 1)).setRse { following.rse with target := -500 })).rse.issued =
      -401 ∧
    (stepSetpoint ((following.setParams (following.params.set .slew 0)).setRse { following.rse with target := -500 })).rse.issued =
      -400 := ⟨⟨_, rfl⟩, by decide +kernel, by decide +kernel, by decide +kernel⟩

/-- RequestFrameActsAsItsCommand: the frame of IDENTIFY on the cab port of a part after reset; the buffer occupied; a payload of one
byte; codes 0, 0x12 and 0x13; a payload a byte too long; units 0, 2 and 8 of the two requests that name one. -/
theorem witness_request_frame :
    let f : Frame := ⟨.extended, 0x1C4E0A10, [0x01, 7]⟩
    let w (p : List Byte) := sending .cab (takePayload p State.reset)
    requestBytes (.identify 7) = some f.payload ∧ (received .cab f State.reset).ports.cab.receive = [f] ∧
    f.kind = (received .cab f State.reset).svr.reqId.kind ∧ f.ident = (received .cab f State.reset).svr.reqId.ident ∧
    (busyResponse State.reset).svr.response.isSome = true ∧ State.reset.svr.response = none ∧
    (takePayload [1] State.reset).ctr.svr.shortRequests = 1 ∧ w [0, 5] = [0x80, 5, 1] ∧ w [0x13, 5] = [0x93, 5, 1] ∧
    w [1, 5, 0] = [0x81, 5, 2] ∧ w [0x12, 5] = [0x92, 5, 2] ∧ w [0x0E, 5, 0] = [0x8E, 5, 8] ∧ w [0x12, 5, 2] = [0x92, 5, 8] ∧
    w [0x12, 5, 8] = [0x92, 5, 3] := by
  decide +kernel

/-- ReceptionAndPlacementFollowThePort, reception: 31 frames and 32. -/
theorem witness_reception :
    let q (n : Nat) := State.reset.setPort .cab { Port.cold with receive := List.replicate n (valueFrame 0) }
    (after (.frameReception .cab (valueFrame 1)) (q 31)).ports.cab.receive.length = 32 ∧
    (after (.frameReception .cab (valueFrame 1)) (q 32)).ctr.frt.cab.dropped = 1 := by decide +kernel

/-- ClassificationFollowsTheRoute: a frame with a matching entry, and one with none; a clash, and none. -/
theorem witness_lookup :
    routing.lookup .cab torqueFrame = some ⟨.cab, .base, 0x0A0, 0x7FF, .rewrite 2 7⟩ ∧
    routing.lookup .chassis torqueFrame = none ∧ routing.clashes .chassis ⟨.base, 0x210, []⟩ = true ∧
    routing.clashes .cab ⟨.base, 0x210, []⟩ = false := by decide +kernel

/-- ReceptionAndPlacementFollowThePort, placement: UP and BUSY, UP and IDLE with nothing waiting, DOWN and retry-ready, DOWN otherwise. -/
theorem witness_placement :
    let down (r : Bool) := State.reset.setPort .cab { Port.cold with up := false, abandons := 8, retryReady := r }
    let busy := transmitting .cab false State.reset
    (busy.port .cab).up = true ∧ (busy.port .cab).tx ≠ none ∧
    (State.reset.port .cab).up = true ∧ (State.reset.port .cab).tx = none ∧ State.reset.standing .cab = 0 ∧
    ((down true).port .cab).up = false ∧ ((down true).port .cab).retryReady = true ∧
    ((down false).port .cab).up = false ∧ ((down false).port .cab).retryReady = false := by decide

/-- TransmissionEndSettlesThePort: IDLE, detached, SENT, the seventh abandonment, the eighth (test_port_goes_down) and one in
DOWN. -/
theorem witness_transmission_end :
    let s (n : Nat) (up : Bool) := transmitting .cab false (State.reset.setPort .cab { Port.cold with abandons := n, up := up })
    (State.reset.port .cab).tx = none ∧
    (after (.transmissionEnd .cab .abandoned) (transmitting .cab true State.reset)).ports.cab.abandons = 0 ∧
    (after (.transmissionEnd .cab .sent) (s 8 false)).ports.cab.up = true ∧
    (after (.transmissionEnd .cab .abandoned) (s 6 true)).ports.cab.abandons = 7 ∧
    (after (.transmissionEnd .cab .abandoned) (s 7 true)).ports.cab.up = false ∧
    (after (.transmissionEnd .cab .abandoned) (s 8 false)).ports.cab.abandons = 8 := by decide +kernel

/-- TorqueRewriteWritesTheCut: the operands of the example; a frame one byte short, and one with a wrong check byte. -/
theorem witness_torque :
    (7 : Nat) ≠ 2 ∧ (7 : Nat) ≠ 2 + 1 ∧ (0 : Int) ≤ driving.par .torqueCap ∧
    (rewriteTorque { torqueFrame with payload := torqueFrame.payload.take 7 } 2 7 driving).2.ctr.tic.shortFrames = 1 ∧
    (rewriteTorque { torqueFrame with payload := torqueFrame.payload.set 7 5 } 2 7 driving).2.ctr.tic.checkDrops = 1 := by
  decide +kernel

/-- SlotArrivalTakesItsDueEntries: CONFIG, and RUN with no entry due; slot 19 of cycle 9 goes to slot 0 of cycle 0; an entry due in
its phase, one out of phase, and one out of phase that repeats; the buffer occupied, and empty. -/
theorem witness_slot :
    let e : SchedEntry := ⟨0, 2, 1, .bac, .base, 0x211⟩
    let loaded := driving.setTxs { driving.txs with table := driving.txs.table.set 3 (some e) }
    let busy := driving.setPort .chassis { Port.cold with scheduled := some torqueFrame }
    State.reset.mode = .config ∧ (∀ i : Fin 32, driving.txs.table[i] = none) ∧
    (after .slotArrival (driving.setTxs { driving.txs with cycle := 9, slot := some 19 })).txs.cycle = 0 ∧
    sending .chassis (after .slotArrival loaded) = [] ∧
    (sending .chassis (after .slotArrival (loaded.setTxs { loaded.txs with cycle := 0, slot := some 19 }))).length = 12 ∧
    (sending .chassis (after .slotArrival (loaded.setTxs { loaded.txs with repeats := loaded.txs.repeats.set 3 true }))).length = 12 ∧
    (takeEntry 0 e busy).txs.repeats[(0 : Fin 32)] = true ∧ (takeEntry 0 e driving).txs.alive[GenKind.bac.idx] = 1 := by
  decide +kernel

/-- GeneratedPayloadsAreSealed and ValveBuildsRespectTheAirState: fields that fill the payload, and the air state LOW (a build in OK is
test_air_after_build). -/
theorem witness_payload : (List.replicate 6 (0 : Byte)).length ≤ GenKind.rsc.length - 2 ∧ State.reset.rhc.airOk = false := by decide

/-- GeneratedPayloadsAreSealed, the contents: the status record after a cold reset (R80, R104, R130, R155, R208). -/
theorem witness_contents :
    (takeContents .gst State.reset).1 = [0, 0, 0, 244, 0, 0, 0, 0, 0, 1, 0, 0, 4, 27] ∧
    (takeContents .rsc State.reset).1 = [0, 0, 0, 4, 0] := by decide +kernel

/-- RoundingIsToNearest, at a half. -/
theorem witness_rounding : 0 < 2 ∧ 2 * ((3 : Int) - roundDiv 3 2 * 2).natAbs = 2 := by decide

/-- RatiosFollowTheWeights: the static weights at their least value, equal, with the bellows weights at 0; and unequal weights. -/
theorem witness_ratios :
    let low := (State.reset.setParams (((State.reset.params.set .staticWF 50).set .staticWM 50).set .staticWR 50)).setBdu
      { State.reset.bdu with weights := ⟨0, 0, 0⟩ }
    (50 ≤ low.par .staticWF ∧ 50 ≤ low.par .staticWM ∧ 50 ≤ low.par .staticWR ∧ low.baseRatio .r = 1024) ∧
    50 ≤ State.reset.par .staticWF ∧ State.reset.baseRatio .m = 1189 := by decide +kernel

/-- BrakeTargetsTakeTheLargestOffer: stop_p equal to p_max; an offer and none. -/
theorem witness_targets :
    let s := (State.reset.setParams ((State.reset.params.set .stopP 600).set .pMax 600)).setBdu
      { State.reset.bdu with stopBrake := .applied, req := ⟨false, true, false, false, false, false⟩ }
    (0 : Int) ≤ s.par .stopP ∧ s.par .stopP ≤ s.par .pMax ∧ s.brakeTarget .r = 600 ∧ s.brakeCause .r = .stop ∧
    s.brakeTarget .f = 0 ∧ s.brakeCause .f = .none := by decide +kernel

/-- GainLiesOnItsSegment: at the first breakpoint, at the last, and at both ends of segment 1. -/
theorem witness_gain :
    casePoints.failure = none ∧ casePoints.gainAt 0 = -8192 ∧ casePoints.gainAt 12000 = 0 ∧ casePoints.gainAt 1500 = -8192 ∧
    (casePoints.point 1).speed ≤ 2999 ∧ 2999 < (casePoints.point 2).speed := by decide

/-- FollowAngleReadsTheLag: DIRECT; FOLLOW with samples after the lag; and with the newest sample at the lag itself. -/
theorem witness_follow :
    let last := following.setRse { following.rse with trace := [⟨38910, 77⟩] }
    driving.steerMode = .direct ∧ following.steerMode = .follow ∧
    following.rse.trace = [] ++ ⟨38890, 1200⟩ :: following.rse.trace.tail ∧
    (following.par .lag ≤ following.behind ⟨38890, 1200⟩) ∧
    (∀ x ∈ following.rse.trace.tail, (following.behind x : Int) < following.par .lag ∧
      following.behind x < following.behind ⟨38890, 1200⟩) ∧
    last.steerMode = .follow ∧ last.par .lag = last.behind ⟨38910, 77⟩ ∧ last.followAngle 0 = 77 := by decide +kernel

/-- ArrivalIsJudgedInOrder: a correct and a wrong check byte, a channel with no check position, one with no alive position and one with
(the three cases of the alive value are tests above), and a value at each end of a range and one beyond it. -/
theorem witness_arrival_order :
    exampleCfg.fits 4 = true ∧ exampleCfg.checkPos.isSome = true ∧
    (exampleFrame 4 1215).foldl (fun n b => n + b.toNat) 0 % 256 = 0xFF ∧
    ([0, 0, 5, 0] : List Byte).foldl (fun n b => n + b.toNat) 0 % 256 ≠ 0xFF ∧
    ({ exampleCfg with checkPos := none } : ChanCfg).checkPos = none ∧
    ({ exampleCfg with alivePos := none } : ChanCfg).alivePos = none ∧ exampleCfg.alivePos = some 2 ∧
    ([(-1 : Int), 0, 12000, 12001].map fun v => (judgeRange .vsp v none {}).value) = [some 0, some 0, some 12000, some 12000] ∧
    ([(-1 : Int), 0, 2, 3].map fun v => (judgeRange .gear v none {}).value) = [none, some 0, some 2, none] := by decide +kernel

/-- ChannelTimersAgeTheChannel: an EMPTY channel; a FRESH channel whose timers end at 50 and at 150 and not before; a channel that is
not FRESH, and one not SUSPECT, as its timer ends. -/
theorem witness_channel_timers :
    let at' (ms : Nat) (st : ChanState) : State :=
      (later ms following).setSgm { following.sgm with
        channels := following.sgm.channels.set (chan .fwa) ((following.sgm.channels[chan .fwa]).map fun x =>
          { x with run := { x.run with state := st } }) }
    let w (s : State) := (s.sgm.channels[chan .fwa]).map fun x =>
      (x.run.state, x.run.freshTimer.ended s.now, x.run.staleTimer.ended s.now)
    State.reset.sgm.channels[(0 : Fin 48)] = none ∧ w (at' 49 .fresh) = some (.fresh, false, false) ∧
    w (at' 50 .fresh) = some (.fresh, true, false) ∧ w (at' 50 .suspect) = some (.suspect, true, false) ∧
    w (at' 149 .suspect) = some (.suspect, true, false) ∧ w (at' 150 .suspect) = some (.suspect, true, true) ∧
    w (at' 150 .fresh) = some (.fresh, true, true) := by decide +kernel

/-- TappedArrivalMovesItsChannel: a sound state with a configured channel and an EMPTY one; an arrival accepted on the selected
channel, one refused, and one too short for the value. -/
theorem witness_tapped :
    ValuesSound topValues ∧ topValues.sgm.channels[(0 : Fin 48)] = none ∧ (topValues.sgm.channels[chan .vsp]).isSome = true ∧
    topValues.sgm.acts .vsp = true ∧ (tapFrame (chan .vsp) (valueFrame 500) topValues).value .vsp = 500 ∧
    (tapFrame (chan .vsp) (valueFrame (-1)) topValues).value .vsp = 0 ∧
    (tapFrame (chan .vsp) ⟨.base, 0, [1]⟩ topValues).ctr.sgm.chans[chan .vsp].checkErrors = 1 :=
  ⟨topValues_sound, by decide +kernel, by decide +kernel, by decide +kernel, by decide +kernel, by decide +kernel, by decide +kernel⟩

/-- A signal bound to a pair of channels, 40 and 41, with automatic switching and a difference limit of 150. -/
def paired (sel : Position) (back : ReturnRule) (r1 r2 : ChanRun) : State :=
  let cfg (role : Position) : ChanCfg := ⟨.fwa, role, 0, true, true, 0, none, none, 50, .accept, none⟩
  driving.setSgm ⟨(driving.sgm.channels.set 40 (some ⟨cfg .primary, r1⟩)).set 41 (some ⟨cfg .secondary, r2⟩),
    driving.sgm.bindings.set Sig.fwa.num
      ⟨some ⟨40, some 41, true, back, some 150⟩, { BindRun.start with selection := sel }⟩⟩

/-- A channel's run state with a value and a good run. -/
def ranTo (st : ChanState) (v : Int) (good : Nat) : ChanRun := { ChanRun.neverRun with state := st, lastGood := some v, goodRun := good }

/-- QualityFollowsTheSelectedChannel: no binding; a pair in each state of the selected channel, with the disagreement flag and without
it; a pair whose unselected channel is EMPTY. -/
theorem witness_quality :
    let s (st : ChanState) := paired .primary .stay (ranTo st 70 9) (ranTo .fresh 80 9)
    let flagged (st : ChanState) := (s st).setSgm ⟨(s st).sgm.channels, (s st).sgm.bindings.set Sig.fwa.num
      ⟨((s st).sgm.binding .fwa).cfg, { BindRun.start with disagree := true, held := some 77 }⟩⟩
    let empty := (s .fresh).setSgm ⟨(s .fresh).sgm.channels.set 41 none, (s .fresh).sgm.bindings⟩
    (State.reset.sgm.binding .fwa).cfg = none ∧ ((s .fresh).sgm.binding .fwa).cfg.isSome = true ∧
    ([ChanState.never, .stale, .suspect, .fresh].map fun st => (s st).reading .fwa) =
      [⟨70, .lost⟩, ⟨70, .lost⟩, ⟨70, .held⟩, ⟨70, .good⟩] ∧
    (flagged .suspect).reading .fwa = ⟨77, .held⟩ ∧ (flagged .fresh).reading .fwa = ⟨77, .held⟩ ∧ empty.isLost .fwa = true := by
  decide +kernel

/-- SelectionAndDisagreementFollowTheirRules: a switch out; a switch back under REVERT at a good run of 8 and none at 7; a switch back
from a partner that delivers nothing; a difference at the limit and one above it, and a pair that is not FRESH. -/
theorem witness_selection :
    let sel (s : State) := ((evalSelection .fwa s).sgm.binding .fwa).run.selection
    let runs (s : State) := let u := ((evalDisagreement .fwa s).sgm.binding .fwa).run
      (u.mismatchRun, u.matchRun)
    sel (paired .primary .stay (ranTo .stale 1 0) (ranTo .suspect 2 0)) = .secondary ∧
    sel (paired .secondary .revert (ranTo .fresh 1 8) (ranTo .fresh 2 9)) = .primary ∧
    sel (paired .secondary .revert (ranTo .fresh 1 7) (ranTo .fresh 2 9)) = .secondary ∧
    sel (paired .secondary .stay (ranTo .fresh 1 1) (ranTo .stale 2 9)) = .primary ∧
    runs (paired .primary .stay (ranTo .fresh 0 9) (ranTo .fresh 150 9)) = (0, 1) ∧
    runs (paired .primary .stay (ranTo .fresh 0 9) (ranTo .fresh 151 9)) = (1, 0) ∧
    runs (paired .primary .stay (ranTo .suspect 0 9) (ranTo .fresh 151 9)) = (0, 0) ∧
    (State.reset.sgm.binding .fwa).cfg = none := by decide +kernel

/-- DriverCommandsMoveTheDoors: a door in each state a command moves, the gate open and closed, a status that reports the leaf open,
one that reports it closed, DRQ's rising bits, and an OPEN door closed with warn_ms at 0. -/
theorem witness_driver_commands :
    let at' (st : DoorState) (a : DoorAction) := withDoor .d1 st a standing
    let seen (v : Int) (st : DoorState) := withDoor .d1 st .none (withSignal .ds1 v standing)
    standing.releaseGate .d1 = true ∧ driving.releaseGate .d1 = false ∧
    ((releaseBitDoor .d1 standing).door .d1).state = .released ∧
    ((releaseBitDoor .d1 driving).door .d1).state = .preparing ∧
    ((releaseBitDoor .d1 (at' .closing .withdraw)).door .d1).state = .released ∧
    ((closeAllDoor .d1 (at' .preparing .none)).door .d1).state = .locked ∧
    ((closeAllDoor .d1 (at' .released .permit)).door .d1).action = .withdraw ∧
    standing.parN .warnMs ≠ 0 ∧ ((closeAllDoor .d1 (at' .opened .permit)).door .d1).action = .warn ∧
    ((closeAllDoor .d1 ((at' .opened .permit).setParams (standing.params.set .warnMs 0))).door .d1).action = .withdraw ∧
    (seen 0 .fault).isLost (statusSig .d1) = false ∧ ((emergencyResetDoor .d1 (seen 0 .emergency)).door .d1).state = .locked ∧
    ((emergencyResetDoor .d1 (seen 1 .emergency)).door .d1).resetSeen = true ∧ (seen 8 .fault).value (statusSig .d1) % 8 = 0 ∧
    ((drqArrival 1 standing).door .d1).state = .released ∧ ((drqArrival 17 standing).door .d1).state = .locked ∧
    ((drqArrival 64 (seen 0 .fault)).door .d1).state = .locked := by decide +kernel

/-- KneelAndSwitchRequestsFollowTheirRules: a kneel request in each kneel state, raise requests with the doors LOCKED and not, the
switch positions, and KSW as it becomes LOST. -/
theorem witness_kneel_requests :
    let ev (v : Int) (q was : Quality) : SigEvent := ⟨.ksw, true, v, q, was⟩
    let faulty := driving.setRhc { driving.rhc with fault := true }
    let pend := kneelRequest .auto driving
    let opening := withDoor .d1 .opened .permit lowering
    driving.rhc.kneel = .ride ∧ pend.rhc.pending = .kneel ∧ pend.kneelGate = false ∧ pend.rhc.origin = .auto ∧
    (kneelRequest .manual pend).rhc.origin = .manual ∧ (kneelRequest .manual faulty).ctr.rhc.refusedKneels = 1 ∧
    (kneelRequest .manual (raising.setSgm standing.sgm)).rhc.kneel ≠ .raising ∧ (kneelRequest .manual raising).ctr.rhc.refusedKneels = 1 ∧
    (raiseRequest opening).rhc.pending = .raise ∧ (raiseRequest lowering).rhc.pending = .none ∧
    (raiseRequest lowering).rhc.kneel ≠ .lowering ∧ (cancelKneel pend).rhc.pending = .none ∧
    (rhcKsw (ev 1 .good .lost) driving).rhc.pending = .kneel ∧ (rhcKsw (ev 3 .good .good) standing).rhc.level = .high ∧
    (rhcKsw (ev 1 .lost .good) pend).rhc.pending = .none ∧ (rhcKsw (ev 0 .good .good) driving) = driving := by decide +kernel

/-- KneelAndSwitchRequestsFollowTheirRules, the entries and the report of every door LOCKED: an entry that completes at once and one that
does not, the raise timer with the air OK and LOW, an AUTO pending kneel, an AUTO kneel and a pending raise, and the last door. -/
theorem witness_kneel_entries :
    let kerb (v : Int) := (withSignal .hfr v driving).putCorner .fr { CornerRec.start with pulse := some ⟨.raise, 20⟩ }
    let low := lowering.setRhc { lowering.rhc with airOk := false }
    let auto := lowering.setRhc { lowering.rhc with origin := .auto }
    let waits := lowering.setRhc { lowering.rhc with pending := .raise }
    let last := withDoor .d1 .opened .permit auto
    (enterLowering (kerb 0)).rhc.kneel = .lowering ∧ (enterLowering (kerb 0)).rhc.kneelTimer = .running 8000 ∧
    (enterLowering (kerb 0)).corner .fr = ⟨.active, -70, 0, .stopped, some ⟨.raise, 20⟩⟩ ∧
    (enterLowering (kerb (-64))).rhc.kneel = .knelt ∧ (enterLowering (kerb (-63))).rhc.kneel = .lowering ∧
    (enterRaising lowering).rhc.raiseTimer = .running 10000 ∧ (enterRaising low).rhc.raiseTimer = .stopped ∧
    (enterRaising (kerb 6)).rhc.kneel = .ride ∧ (enterRaising (kerb 7)).rhc.kneel = .raising ∧
    (allDoorsLocked (kneelRequest .auto driving)).ctr.rhc.cancellations = 1 ∧
    (allDoorsLocked auto).rhc.kneel = .raising ∧ (allDoorsLocked waits).rhc.kneel = .raising ∧ allDoorsLocked lowering = lowering ∧
    allDoorsLocked raising = raising ∧
    (last.door .d1).state ≠ .locked ∧ (∀ j, j ≠ .d1 → (last.door j).state = .locked) ∧ (lockDoor .d1 last).rhc.kneel = .raising := by
  refine ⟨?_, ?_, ?_, ?_, ?_, ?_, ?_, ?_, ?_, ?_, ?_, ?_, ?_, ?_, ?_, ?_, ?_⟩
  case refine_16 => intro j hj; cases j <;> first | rfl | exact absurd rfl hj
  all_goals decide +kernel

/-- UrgentFramesFollowTheChange: no entry of the kind, an entry with the path's last place free and with none, and stop_p at both ends
of its premise. -/
theorem witness_urgent :
    let e : SchedEntry := ⟨0, 1, 0, .bac, .base, 0x211⟩
    let s (n : Nat) := (driving.setTxs { driving.txs with table := driving.txs.table.set 5 (some e) }).setUrgent
      (List.replicate n torqueFrame)
    let w (s : State) := let c := (urgentRequest .bac [] s).ctr.txs.urgentBac; (c.builds, c.refusals, c.noEntry)
    driving.mode ≠ .config ∧ w driving = (0, 0, 1) ∧ w (s 7) = (1, 0, 0) ∧ w (s 8) = (0, 1, 0) ∧ w State.reset = (0, 0, 0) ∧
    (let p (v : Int) := driving.setParams (driving.params.set .stopP v)
     0 ≤ (p 0).par .stopP ∧ (p 65535).par .stopP ≤ 65535 ∧ (p 65535).par .pMax ≤ 65535 ∧
     (place .stopApply 9 (setStopBrake .applying (p 65535))).bdu.stopBrake = .applying) := by decide +kernel

/-- FrontAngleArrivalComputesTheTarget: an append one spacing after the newest sample, none below it, none before an ODO value; CENTRE
HOLD; and the ordinary target and the crossfade in FOLLOW (test_worked_case and test_crossfade take them on). -/
theorem witness_front_angle :
    let s (o : Nat) := following.setRse { following.rse with odoNow := some (BitVec.ofNat 16 o) }
    let held := following.setRse { following.rse with holds := { following.rse.holds with input := true } }
    following.traceSuspended = false ∧ following.parN .spacing = 30 ∧
    (appendSample 5 (s 40120)).rse.trace.getLast? = some ⟨40120, 5⟩ ∧ appendSample 5 (s 40119) = s 40119 ∧
    driving.rse.odoNow = none ∧ held.steerMode = .centreHold ∧ following.steerMode = .follow ∧
    following.rse.xfade.target = none := by decide +kernel

/-- A full tracker. -/
def fullTracker : State := applying.setCft [⟨.doorLock .d1, 5⟩, ⟨.stopApply, 6⟩, ⟨.doorLock .d2, 7⟩, ⟨.doorLock .d3, 8⟩]

/-- PlacementSupersedesAppendsAndEvicts: a supersession in a full queue and at occupancy 3, an append at 2, 3 and 4. -/
theorem witness_placements :
    let two := applying.setCft [⟨.doorLock .d1, 5⟩, ⟨.stopApply, 6⟩]
    let three := applying.setCft [⟨.doorLock .d1, 5⟩, ⟨.stopApply, 6⟩, ⟨.doorLock .d2, 7⟩]
    fullTracker.cft.length ≤ 4 ∧ (fullTracker.cft.map (·.key)).Nodup ∧ fullTracker.expects .stopApply = true ∧
    fullTracker.expects .stopRelease = false ∧ (place .stopRelease 9 fullTracker).ctr.cft.doorLock.evicted = 1 ∧
    three.expects .stopApply = true ∧ (place .stopApply 9 three).ctr.cft.almostFullOnsets = 1 ∧
    (place .stopApply 9 fullTracker).ctr.cft.almostFullOnsets = 0 ∧
    two.expects .stopRelease = false ∧ (place .stopRelease 9 two).ctr.cft.almostFullOnsets = 1 ∧
    three.expects .stopRelease = false ∧ (place .stopRelease 9 three).cft.length = 4 := by decide +kernel

/-- BrakeSignalsFormDemandWeightsAndRequests: BPD given and LOST with the flag clear; weights formed in RIDE, kept in LOWERING; the bias
with the demand at 0 and above; the first and the last requester in the states of R71 to R74; DRQ in RUN; a pressure at the apply
threshold and one below it. -/
theorem witness_brake_signals :
    let ev (g : Sig) (v : Int) : SigEvent := ⟨g, true, v, .good, .good⟩
    let pedal := withSignal .bpd 500 driving
    let mid := withSignal .blf 420 driving
    let alone (k : Requester) (b : StopBrake) (s : State) := s.setBdu
      { s.bdu with stopBrake := b, req := (⟨false, false, false, false, false, false⟩ : ReqSet).put k true }
    let slow := withSignal .vsp 0 driving
    let pressed (st : StopBrake) (v : Int) := alone .driver st (withSignal .apm v (withSignal .apr v driving))
    let at' (st : StopBrake) := driving.setBdu { driving.bdu with stopBrake := st }
    (bduEvent (ev .bpd 500) pedal).bdu.demand = 400 ∧
    (bduEvent (ev .bpd 0) (driving.setBdu { driving.bdu with backup := false })).ctr.bdu.backupOnsets = 1 ∧
    (bduEvent (ev .blf 420) mid).bdu.weights = ⟨420, 600, 500⟩ ∧
    bduEvent (ev .blf 9) (withSignal .blf 9 lowering) = withSignal .blf 9 lowering ∧
    (sharing true).ratio .r ≠ (sharing false).ratio .r ∧
    (request .driver true slow).bdu.stopBrake = .applying ∧ (request .driver true driving).bdu.stopBrake = .pending ∧
    (request .driver true (at' .releasing)).bdu.stopBrake = .applying ∧
    (request .driver false (alone .driver .pending driving)).bdu.stopBrake = .released ∧
    (request .driver false (alone .driver .applying driving)).bdu.stopBrake = .releasing ∧
    (request .driver false (alone .driver .fault driving)).bdu.stopBrake = .releasing ∧
    request .driver false driving = driving ∧ (request .start true (alone .driver .applied driving)).bdu.req.start = true ∧
    (bduEvent (ev .drq 32) driving).bdu.req.driver = true ∧
    (bduEvent (ev .drq 0) (alone .start .pending driving)).bdu.req.start = false ∧
    (bduEvent (ev .vsp 0) (alone .start .pending slow)).bdu.stopBrake = .applying ∧
    bduEvent (ev .apm driving.applyThreshold) (at' .applied) = at' .applied ∧
    (bduEvent (ev .apm (driving.applyThreshold - 1)) (at' .applied)).ctr.bdu.sags = 1 ∧
    (bduEvent (ev .apm 0) (pressed .fault driving.applyThreshold)).bdu.stopBrake = .applied ∧
    (bduEvent (ev .apm 0) (pressed .fault (driving.applyThreshold - 1))).bdu.stopBrake = .fault ∧
    (stopBrakeSatisfied .stopApply (at' .applying)).bdu.stopBrake = .applied ∧
    (stopBrakeSatisfied .stopRelease (at' .releasing)).bdu.stopBrake = .released := by decide +kernel

/-- LevelSignalsMoveTheCornersAndTheAir: a corner lost and one regained, each corner state judging a sample at its band and one beyond it,
a kneel that completes, the freeze flag's onset and end, HIGH left by speed and by LOST, and RSV at both watermarks and LOST. -/
theorem witness_level_signals :
    let ev (g : Sig) (v : Int) (q was : Quality) : SigEvent := ⟨g, true, v, q, was⟩
    let corner (st : CornerState) := (withSignal .hfl 0 driving).putCorner .fl { CornerRec.start with state := st, quiet := 7 }
    let judged (st : CornerState) (v : Int) := ((rhcEvent (ev .hfl v .good .good) (corner st)).corner .fl).state
    let frozen (v : Int) := withSignal .frz v (withSignal .vsp 2000 (corner .quiet))
    let high := driving.setRhc { driving.rhc with level := .high }
    let air (ok : Bool) (v : Int) := (rhcEvent (ev .rsv v .good .good) ((withSignal .rsv v driving).setRhc { driving.rhc with airOk := ok }))
    let known := corner .active
    ((rhcEvent (ev .hfl 0 .lost .good) (corner .active)).corner .fl).state = .off ∧
    ((rhcEvent (ev .hfl 50 .good .lost) (corner .off)).corner .fl).state = .wake ∧
    (driving.par .deadband, driving.par .wakeBand, driving.parN .quietCount) = (6, 12, 8) ∧
    judged .active 6 = .quiet ∧ judged .active 7 = .active ∧ judged .quiet 12 = .quiet ∧ judged .quiet (-13) = .wake ∧
    judged .wake (-6) = .quiet ∧ judged .wake 7 = .wake ∧ judged .frozen 100 = .frozen ∧
    (checkComplete lowering).rhc.kneel = .knelt ∧ lowering.noneLevelling = true ∧
    (checkComplete (known.setRhc { known.rhc with kneel := .raising })).rhc.kneel = .ride ∧
    (evalFreeze (frozen 1)).ctr.rhc.freezes = 1 ∧ ((evalFreeze (frozen 1)).corner .fl).state = .frozen ∧ evalFreeze (frozen 0) = frozen 0 ∧
    ((evalFreeze ((corner .frozen).setRhc { (corner .frozen).rhc with freeze := true })).corner .fl).state = .wake ∧
    (rhcEvent (ev .vsp (high.par .highSpeed + 1) .good .good) high).rhc.level = .ride ∧
    (rhcEvent (ev .vsp (high.par .highSpeed) .good .good) high).rhc.level = .high ∧
    (rhcEvent ⟨.vsp, false, 0, .lost, .good⟩ high).ctr.rhc.highReturns = 1 ∧
    (rhcEvent (ev .vsp (driving.par .kneelSpeed + 1) .good .good) (kneelRequest .manual driving)).ctr.rhc.cancellations = 1 ∧
    (rhcEvent (ev .rsv 0 .lost .good) driving).rhc.airOk = false ∧ (rhcEvent (ev .rsv 0 .lost .good) driving).rhc.airEstimate = 12000 ∧
    (air true 1300).rhc.airOk = true ∧ (air true 1300).rhc.airEstimate = 20800 ∧ (air true 0).rhc.airOk = false ∧
    (air false 1300).rhc.airOk = true ∧ (air false 0).rhc.airOk = false ∧
    (setAir true raising).rhc.raiseTimer = .running (raising.parN .raiseTimeout) ∧
    (rhcEvent (ev .drq 0 .good .good) driving) = driving := by decide +kernel

/-- DoorSignalsMoveTheDoors: a status lost; the arrivals that end the loss at a LOCKED door and at another; each door state with the
drive states that move it, the obstruction at the limit and one before it; VSP at release_speed and above; DOOR_LOCK satisfied. -/
theorem witness_door_signals :
    let ev (v : Int) (q was : Quality) : SigEvent := ⟨.ds1, true, v, q, was⟩
    let unknown := standing.putDoor .d1 { knownDoor with statusUnknown := true }
    let found (v : Int) := ((dicEvent (ev v .good .lost) unknown).door .d1)
    let at' (st : DoorState) (a : DoorAction) := withDoor .d1 st a standing
    let arr (v : Int) (s : State) := (dicEvent (ev v .good .good) s).door .d1
    let hit (n : Nat) (s : State) := s.putDoor .d1 { s.door .d1 with obstructions := n }
    let dwelling := (at' .opened .permit).putDoor .d1 { (at' .opened .permit).door .d1 with dwell := .running 1 }
    let closing := (at' .closing .withdraw).setCft [⟨.doorLock .d1, 9⟩]
    let vsp (v : Int) (s : State) := dicEvent ⟨.vsp, true, v, .good, .good⟩ s
    (dicEvent (ev 0 .lost .good) standing).door .d1 = { knownDoor with statusUnknown := true } ∧
    (found 0).state = .locked ∧ (found 0).statusUnknown = false ∧ (found 6).state = .emergency ∧ (found 7).state = .fault ∧
    (found 1).state = .closing ∧ (found 5).action = .warn ∧
    (arr 6 (at' .preparing .none)).state = .emergency ∧ (arr 14 closing).state = .emergency ∧
    (arr 2 (at' .released .permit)).state = .opened ∧ (arr 3 (at' .released .permit)).dwell = .running 6000 ∧
    (arr 1 (at' .released .permit)).state = .released ∧ (arr 8 dwelling).dwell = .running 6000 ∧ (arr 3 dwelling).dwell = .running 1 ∧
    standing.parN .obstructLimit = 3 ∧ (arr 5 (hit 1 closing)).dwell = .running 6000 ∧ (arr 5 (hit 2 closing)).suspended = true ∧
    (arr 5 (hit 2 closing)).dwell = .stopped ∧ (dicEvent (ev 5 .good .good) closing).cft = [] ∧ (arr 3 closing).state = .closing ∧
    (arr 7 (at' .emergency .none)).state = .fault ∧ (arr 0 (at' .emergency .none)).state = .emergency ∧
    (arr 0 ((at' .emergency .none).putDoor .d1 { (at' .emergency .none).door .d1 with resetSeen := true })).state = .locked ∧
    (arr 3 (at' .fault .withdraw)).state = .fault ∧
    ((vsp (standing.par .releaseSpeed) (at' .released .permit)).door .d1).state = .released ∧
    ((vsp (standing.par .releaseSpeed + 1) (at' .released .permit)).door .d1).action = .withdraw ∧
    ((vsp (standing.par .releaseSpeed + 1) (at' .opened .permit)).door .d1).action = .warn ∧
    closing.expects (.doorLock .d1) = true ∧ (closing.cft.map (·.key)).Nodup ∧
    ((readerEvent .cft (ev 0 .good .good) closing).door .d1).state = .locked ∧ readerEvent .cft (ev 3 .good .good) closing = closing ∧
    standing.expects (.doorLock .d1) = false ∧
    (satisfy (.doorLock .d1) (closing.putDoor .d1 knownDoor)).cft = [] := by decide +kernel

/-- SteeringSignalsMoveTheTraceAndTheSupervision: ODO at an advance of 0, of odo_max_step and of one more, in reverse, the arrival that
ends LOST, and a head sample that reaches 65536; GEAR; RSA at track_tol and beyond it, at the last mismatch, and LOST; the jackknife
warning at its bounds. -/
theorem witness_steering_signals :
    let ev (g : Sig) (v : Int) (q was : Quality) : SigEvent := ⟨g, true, v, q, was⟩
    let odo (v : Int) (s : State) := (rseEvent (ev .odo v .good .good) s).rse
    let backing := following.setRse { following.rse with reverse := true }
    let old := following.setRse { following.rse with trace := [⟨40120, 1⟩, ⟨40109, 2⟩] }
    let off (n : Nat) := following.setRse { following.rse with mismatchRun := n }
    let bent (a v : Int) := withSignal .art a (withSignal .vsp v driving)
    following.traceState = .ready ∧ backing.traceState = .suspended ∧ odo 40110 following = following.rse ∧ following.parN .odoMaxStep = 500 ∧
    (odo 40610 following).trace.length = 41 ∧ (odo 40611 following).trace = [] ∧ (odo 40611 following).odoNow = some 40611 ∧
    (odo 5 backing).odoNow = some 5 ∧ (rseEvent (ev .odo 7 .good .lost) following).rse.trace = [] ∧
    (odo 40120 old).trace = [⟨40109, 2⟩] ∧ (odo 40119 old).trace.length = 2 ∧
    (rseEvent (ev .gear 2 .good .good) following).rse.trace = [] ∧ (rseEvent (ev .gear 2 .good .good) following).rse.holds.reverse = true ∧
    (rseEvent (ev .gear 1 .good .good) backing).rse.reverse = false ∧
    following.rse.issued = -400 ∧ (rseEvent (ev .rsa (-400 + following.par .trackTol) .good .good) (off 3)).rse.mismatchRun = 0 ∧
    (rseEvent (ev .rsa (-401 - following.par .trackTol) .good .good) (off 0)).rse.mismatchRun = 1 ∧
    (rseEvent (ev .rsa 1500 .good .good) (off (following.parN .trackCount - 1))).rse.fault = true ∧
    (rseEvent (ev .rsa 0 .lost .good) following).ctr.rse.steerFaults = 1 ∧
    (let a := driving.par .jkAngle
     let v := driving.par .jkSpeed
     let set (s : State) := (rseEvent (ev .art 0 .good .good) s).rse.jackknife
     set (bent (-(a + 1)) (v + 1)) = true ∧ set (bent a (v + 1)) = false ∧ set (bent (a + 1) v) = false) ∧
    (rseEvent (ev .vsp 0 .good .lost) driving).rse.holds.input = true ∧
    (rseEvent (ev .fwa 1111 .good .good) following).rse.target = -422 := by decide +kernel

/-- DeadlineExpiryReportsATimeout: no entry, an entry one millisecond early, and an entry of each kind, due, in the state that placed
it. -/
theorem witness_deadline :
    let lock := (standing.putDoor .d3 { knownDoor with state := .closing, action := .withdraw }).setCft [⟨.doorLock .d3, 0⟩]
    let rel := (driving.setBdu { driving.bdu with stopBrake := .releasing }).setCft [⟨.stopRelease, 0⟩]
    let due := later 1500 applying
    driving.expects .stopApply = false ∧ (later 1499 applying).now < 1500 ∧
    (due.cft = [⟨.stopApply, 1500⟩] ∧ due.now = 1500 ∧ due.bdu.stopBrake = .applying) ∧
    (lock.cft = [⟨.doorLock .d3, lock.now⟩] ∧ (lock.door .d3).state = .closing ∧ (lock.door .d3).action = .withdraw) ∧
    (rel.cft = [⟨.stopRelease, rel.now⟩] ∧ rel.bdu.stopBrake = .releasing) := by decide +kernel

/-- LevelPortAndGapTimersActInTheirStates: no timer, a timer at its end and one a millisecond before it. -/
theorem witness_level_timers :
    let port := State.reset.setPort .chassis { Port.cold with up := false, abandons := 8, recovery := .running 200 }
    let w (ms : Nat) := (((later ms waking).corner .mr).wake.ended ms, (later ms lowering).rhc.kneelTimer.ended ms,
      (later ms raising).rhc.raiseTimer.ended ms, ((later ms port).port .chassis).recovery.ended ms,
      (later ms inGap).tic.gapTimer.ended ms)
    w 199 = (false, false, false, false, false) ∧ w 200 = (false, false, false, true, false) ∧
    w 500 = (true, false, false, true, true) ∧ w 7999 = (true, false, false, true, true) ∧
    w 8000 = (true, true, false, true, true) ∧ w 10000 = (true, true, true, true, true) := by decide +kernel

/-- LevelPortAndGapTimersActInTheirStates: the states that its clauses ask for. -/
theorem witness_level_states :
    ((driving.corner .mr).wake.ended 9 = false ∧ driving.rhc.kneelTimer.ended 9 = false ∧ driving.rhc.raiseTimer.ended 9 = false) ∧
    ((waking.corner .mr).state = .wake ∧ waking.rhc.kneel = .ride ∧ waking.rhc.pending ≠ .kneel) ∧
    (lowering.rhc.kneel = .lowering ∧ ([Door.d1, .d2, .d3, .d4].all fun d => (lowering.door d).state != .preparing) = true) ∧
    raising.rhc.kneel = .raising ∧ inGap.tic.combined = .gap ∧ driving.tic.combined ≠ .gap := by decide +kernel

/-- DoorTimersActInTheirStates; the expiries that act are tests above. -/
theorem witness_door_timers :
    let at' (n : Nat) (r : DoorRec) := later n (standing.putDoor .d1 r)
    let prep := at' 3000 { knownDoor with state := .preparing, relPending := true, prep := .running 3000 }
    let openDwell := at' 6000 { knownDoor with state := .opened, action := .permit, dwell := .running 6000 }
    let closeDwell := at' 6000
      { knownDoor with state := .closing, action := .warn, dwell := .running 6000, warn := .running 1500 }
    let early := at' 1499 (closeDwell.door .d1)
    ((driving.door .d1).prep.ended 9 = false ∧ (driving.door .d1).dwell.ended 9 = false ∧ (driving.door .d1).warn.ended 9 = false) ∧
    ((prep.door .d1).prep.ended prep.now = true ∧ (prep.door .d1).state = .preparing ∧ prep.cft.length < 3) ∧
    ((openDwell.door .d1).dwell.ended openDwell.now = true ∧ (openDwell.door .d1).state = .opened ∧ openDwell.parN .warnMs ≠ 0) ∧
    ((closeDwell.door .d1).dwell.ended closeDwell.now = true ∧ (closeDwell.door .d1).state ≠ .opened ∧
      (closeDwell.door .d1).warn.ended closeDwell.now = true ∧ (closeDwell.door .d1).state = .closing) ∧
    (early.door .d1).warn.ended early.now = false := by decide +kernel

/-- Every statement about a service request: the response buffer is empty, with the tracker within its four entries. -/
theorem witness_response_empty :
    State.reset.svr.response = none ∧ driving.svr.response = none ∧ standing.svr.response = none ∧ inService.svr.response = none ∧
    applying.cft.length ≤ 4 := by decide +kernel

/-- ModeRequestFollowsItsTable: from RUN at standstill at VSP 100 and above it, out of CONFIG refused (test_mode_request). -/
theorem witness_mode_request :
    let at' (v : Int) := (withSignal .vsp v standing)
    (after (.modeRequest 1 2) (at' 100)).mode = .service ∧ (after (.modeRequest 1 2) (at' 101)).mode = .run ∧
    sending .cab (after (.modeRequest 1 3) standing) = [0x82, 1, 8] ∧ sending .cab (after (.modeRequest 1 1) standing) = [0x82, 1, 0] := by
  decide +kernel

/-- The eight checks of the commit validation, each the first to fail: a route entry that taps an EMPTY channel, a binding to one, a
missing schedule kind, then a reach of the lag too long, the active profile INVALID, and the three pairs of parameters; and none. -/
theorem witness_commit :
    let kinds : List GenKind := [.rsc, .bac, .vlc1, .vlc2, .vlc3, .dcm]
    let table : Vector (Option SchedEntry) 32 := Vector.ofFn fun i => (kinds[i.val]?).map fun k => ⟨0, 1, 0, k, .base, 0x210⟩
    let full := driving.setTxs { driving.txs with table := table }
    let w (k : ParamId) (v : Int) := (full.setParams (full.params.set k v)).commitFailure
    (full.setRoutes (full.routes.set 9 (some ⟨.any, .base, 1, 1, .tap 4⟩))).commitFailure = some (0, 9) ∧
    (full.setSgm ⟨full.sgm.channels, full.sgm.bindings.set Sig.vsp.num ⟨some ⟨4, none, false, .revert, none⟩, .start⟩⟩).commitFailure =
      some (2, Sig.vsp.num.val) ∧
    (full.setTxs { full.txs with table := table.set 3 none }).commitFailure = some (3, 3) ∧
    w .lag 1410 = some (15, 17) ∧ (full.setRse { full.rse with active := 2 }).commitFailure = some (10, 0) ∧
    w .airHigh (full.par .airLow) = some (15, 57) ∧ w .wakeBand (full.par .deadband) = some (15, 49) ∧
    w .svcReqId (full.par .svcRspId) = some (15, 113) ∧ full.commitFailure = none := by decide +kernel

/-- ParameterRequestsFollowTheirTable: a number in the table and one outside it; stop_p at p_max and one above it; mech below the
issued setpoint; an identifier at 2047 and at 2048. -/
theorem witness_parameters :
    (17 : BitVec 16).toNat = ParamId.lag.row.number ∧ ParamId.ofNumber 15 = none ∧
    sending .cab (after (.paramWrite 1 33 600) State.reset) = [0x84, 1, 0] ∧
    sending .cab (after (.paramWrite 1 33 601) State.reset) = [0x84, 1, 8] ∧
    sending .cab (after (.paramWrite 1 19 399) { following with mode := .service }) = [0x84, 1, 5] ∧
    sending .cab (after (.paramWrite 1 19 400) { following with mode := .service }) = [0x84, 1, 0] ∧
    sending .cab (after (.paramWrite 1 112 2047) State.reset) = [0x84, 1, 0] ∧
    sending .cab (after (.paramWrite 1 112 2048) State.reset) = [0x84, 1, 8] ∧
    sending .cab (after (.paramWrite 1 112 0) inService) = [0x84, 1, 3] ∧
    sending .cab (after (.paramWrite 1 17 1200) driving) = [0x84, 1, 3] := by decide +kernel

/-- ParameterRequestsFollowTheirTable, the effects: each kind of parameter written at a value that acts and, where one bounds it, at one
that does not. -/
theorem witness_parameter_effects :
    let w (k : ParamId) (v : BitVec 32) (s : State) := after (.paramWrite 1 (BitVec.ofNat 16 k.row.number) v) (s.setMode .service)
    let at' (v : Int) := withSignal .vsp v driving
    let bent := withSignal .art 4000 (at' 2000)
    let held := (at' 300).setBdu { driving.bdu with stopBrake := .pending, req := ⟨false, true, false, false, false, false⟩ }
    let high := (at' 2000).setRhc { driving.rhc with level := .high }
    let pend := kneelRequest .auto (at' 50)
    let opened := withDoor .d1 .opened .permit (at' 200)
    let vented := withDoor .d1 .emergency .none (at' 400)
    (w .spacing 30 following).rse.trace = [] ∧
    (w .mech 400 (following.setRse { following.rse with target := -422 })).rse.target = -400 ∧
    (w .jkAngle 3999 bent).rse.jackknife = true ∧ (w .jkAngle 4000 bent).rse.jackknife = false ∧
    (w .pMax 1000 (withSignal .bpd 500 driving)).bdu.demand = 500 ∧ (w .staticWM 700 driving).bdu.weights = ⟨450, 700, 500⟩ ∧
    (w .stopSpeed 300 held).bdu.stopBrake = .applying ∧ (w .stopSpeed 299 held).bdu.stopBrake = .pending ∧
    (w .emgSpeed 401 vented).bdu.req.emergency = true ∧ (w .emgSpeed 400 vented).bdu.req.emergency = false ∧
    (w .airLow 12001 driving).rhc.airOk = false ∧ (w .airLow 12000 driving).rhc.airOk = true ∧
    (w .kneelSpeed 49 pend).ctr.rhc.cancellations = 1 ∧ (w .kneelSpeed 50 pend).ctr.rhc.cancellations = 0 ∧
    ((w .highOffset 70 high).corner .fl).target = 70 ∧
    (w .highSpeed 1999 high).rhc.level = .ride ∧ (w .highSpeed 2000 high).rhc.level = .high ∧
    (w .deadband 6 lowering).rhc.kneel = .knelt ∧
    ((w .releaseSpeed 199 opened).door .d1).state = .closing ∧ ((w .releaseSpeed 200 opened).door .d1).state = .opened ∧
    (w .enableMask 0 ((reportSource .mgmt true driving).setSvr driving.svr)).tic.combined = .gap := by decide +kernel

/-- TableOpenAndCloseFollowTheirTables, opening: the last index and one beyond it, a table already open, a profile in use. -/
theorem witness_table_open :
    sending .cab (after (.tableOpen 1 8 16) State.reset) = [0x85, 1, 0] ∧
    sending .cab (after (.tableOpen 1 8 17) State.reset) = [0x85, 1, 7] ∧
    sending .cab (after (.tableOpen 1 0 0) (opened .door 0 State.reset)) = [0x85, 1, 11] ∧
    sending .cab (after (.tableOpen 1 8 0) driving) = [0x85, 1, 10] := by decide +kernel

/-- TableOpenAndCloseFollowTheirTables, closing: an INVALID profile that passes, one that fails at breakpoint 2, one at its header, and
a table that is no profile. -/
theorem witness_table_close :
    let wrong : Profile := { casePoints with valid := false, points := casePoints.points.set 2 ⟨1500, 0, 0⟩ }
    let w (q : Profile) := sending .cab (after (.tableClose 1)
      (opened (.profile 0) 0 (State.reset.setRse { Rse.cold with profiles := Rse.cold.profiles.set 0 q })))
    w { casePoints with valid := false } = [0x88, 1, 0] ∧ w wrong = [0x88, 1, 12, 8, 0, 3] ∧ w .zero = [0x88, 1, 12, 8, 0, 0] ∧
    sending .cab (after (.tableClose 1) (opened .route 0 State.reset)) = [0x88, 1, 0] := by decide +kernel

/-- TableWriteAndReadActAtThePointer: no pointer, the last record and beyond it, RUN, a value refused and a door not LOCKED, for
tables of each kind. -/
theorem witness_table_write :
    let zero : Vector Byte 16 := Vector.replicate 16 0
    let two : Vector Byte 16 := Vector.replicate 16 2
    let w (r : Vector Byte 16) (s : State) := sending .cab (after (.tableWrite 1 r) s)
    w zero State.reset = [0x86, 1, 9] ∧
    ([(TableId.route, 127), (.channel, 47), (.binding, 26), (.schedule, 31), (.door, 3), (.kneelOffset, 5), (.profile 3, 16)].all
      fun x => w zero (opened x.1 x.2 State.reset) == [0x86, 1, 0] && w zero (opened x.1 (x.2 + 1) State.reset) == [0x86, 1, 7]) = true ∧
    ([TableId.route, .channel, .binding, .schedule, .door, .kneelOffset].all
      fun x => w two (opened x 0 State.reset) == [0x86, 1, 8] && w zero (opened x 0 driving) == [0x86, 1, 3]) = true ∧
    w zero (opened .door 0 (withDoor .d1 .opened .permit State.reset)) = [0x86, 1, 5] := by decide +kernel

/-- TableRecordsReadBackAsWritten: a record of each kind that a write takes, the EMPTY record of 16 bytes, and the last entry of each
table EMPTY. -/
theorem witness_records :
    (parseRoute [1, 2, 0, 0, 0, 3, 0, 0, 0, 7, 0xF0, 2, 6, 255, 0, 0]).isSome = true ∧
    (parseChannel 46 [1, 0, 1, 63, 2, 1, 0x80, 0, 63, 255, 0x07, 0xD0, 1, 47, 0, 0]).isSome = true ∧
    (parseBinding .fwa [1, 47, 255, 1, 1, 0x2E, 0xE0, 0, 0, 0, 0, 0, 0, 0, 0, 0]).isSome = true ∧
    (parseSchedule [1, 19, 10, 9, 6, 1, 0x1F, 255, 255, 255, 0, 0, 0, 0, 0, 0]).isSome = true ∧
    (parseDoor [1, 1, 1, 0xEA, 0x60]).isSome = true ∧ parseOffset (i2 (-100)) = some (-100) ∧ parseOffset (i2 (-101)) = none ∧
    (List.replicate 16 (0 : Byte)).length = 16 ∧ padTo 16 (State.reset.recordBytes .route 127) = List.replicate 16 0 ∧
    State.reset.routes[127] = none ∧ State.reset.sgm.channels[47] = none ∧ State.reset.sgm.bindings[26].cfg = none ∧
    State.reset.txs.table[31] = none := by decide +kernel

/-- ProfileSelectFollowsItsTable: each case of R48. -/
theorem witness_profile_select :
    let w (p k : Byte) (s : State) := sending .cab (after (.profileSelect 1 p k) s)
    w 4 1 following = [0x89, 1, 8] ∧ w 1 0 following = [0x89, 1, 8] ∧ w 0 1 following = [0x89, 1, 0] ∧ w 3 255 following = [0x89, 1, 5] ∧
    (after (.profileSelect 1 1 1) following).rse.xfade.target = some 1 ∧
    w 1 1 ((after (.profileSelect 1 1 1) following).setPorts following.ports) = [0x89, 1, 11] := by decide +kernel

/-- IdentifyAndStateReadAnswerTheState: the last page and the page beyond it, and units 9 and 10. -/
theorem witness_state_read :
    let w (u p : Byte) := (sending .cab (after (.stateRead 1 u p) fullTracker)).getD 2 99
    (w 0 26, w 0 27, w 1 1, w 1 2, w 9 0, w 9 1, w 10 0) = (0, 7, 0, 7, 0, 7, 8) := by decide +kernel

/-- A part that holds a snapshot. -/
def withSnapshot : State := State.reset.setSvr { State.reset.svr with snapNumber := 1, snapshot := some State.reset.copy }

/-- CounterRequestsFollowTheirRules, reading: the last counter of a group and beyond it, groups 9 and 10, no snapshot above. -/
theorem witness_counter_read :
    let w (g : Byte) (i : BitVec 16) := (sending .cab (after (.counterRead 1 g i) withSnapshot)).length
    (w 9 5, w 9 6, w 10 0, w 255 552, w 255 553) = (9, 3, 3, 9, 3) := by decide +kernel

/-- CounterRequestsFollowTheirRules, clearing: groups 9, 10 and 255. -/
theorem witness_counter_clear :
    let w (g : Byte) := sending .cab (after (.counterClear 1 g) State.reset)
    (w 9, w 10, w 255) = ([0x8D, 1, 0], [0x8D, 1, 8], [0x8D, 1, 0]) := by decide +kernel

/-- FaultClearsAndInhibitRequestsFollowTheirRules: a sound state with MGMT INACTIVE and taking part, and one whose mask leaves it out. -/
theorem witness_inhibit :
    CombinedSound drivingOn ∧ drivingOn.svr.response = none ∧ (drivingOn.source .mgmt).active = false ∧
    drivingOn.takesPart .mgmt = true ∧ (drivingOn.setParams (drivingOn.params.set .enableMask 7)).takesPart .mgmt = false :=
  ⟨witness_combined, rfl, by decide +kernel, by decide +kernel, by decide +kernel⟩

/-- RestartTakesTheWarmValues: VSP at 100 and at 101; CONFIG. -/
theorem witness_restart :
    (after (.restart 1) (withSignal .vsp 100 driving)).mode = .service ∧ (after (.restart 1) (withSignal .vsp 101 driving)).mode = .run ∧
    sending .cab (after (.restart 1) State.reset) = [0x91, 1, 3] := by decide +kernel

/-- UnitResetsReinitialiseTheirUnit: SERVICE, with no pending kneel and the kneel state RIDE; LOWERING and RAISING with every height
LOST, kept with the corners ACTIVE before the reset and OFF before it; a pending kneel; and another mode. -/
theorem witness_unit_reset :
    let knee (k : KneelState) (st : CornerState) := inService.setRhc { inService.rhc with
      kneel := k, level := if k = .lowering then .kneel else .ride, corners := PerCorner.ofFn fun _ => ⟨st, 0, 0, .stopped, none⟩ }
    let w (k : KneelState) (st : CornerState) := (after (.unitResetRhc 1) (knee k st)).rhc.kneel
    inService.mode = .service ∧ inService.rhc.pending ≠ .kneel ∧ inService.rhc.kneel = .ride ∧ driving.mode ≠ .service ∧
    inService.isLost .hfl = true ∧ w .lowering .active = .lowering ∧ w .lowering .off = .lowering ∧ w .raising .active = .raising ∧
    w .raising .off = .raising ∧ (kneelRequest .manual inService).rhc.pending = .kneel ∧
    (after (.unitResetRhc 1) (kneelRequest .manual inService)).rhc.pending = .none := by
  decide +kernel

end Sys2Proof.Tests
end

/-! SUPPORT and the statements of the family `00_scope`: the step and its queue, then the timers and the deadlines (R1, R2). -/

section
namespace Sys2Proof.Proofs

open Sys2Proof.Machine Sys2Proof.Safety

/-! ### The two fields of the model's own -/

/-- The commands still waiting and the order of the readers are left as they were. -/
def QueueKept (s t : State) : Prop := t.pending = s.pending ∧ t.readerPref = s.readerPref

theorem QueueKept.refl (s : State) : QueueKept s s := ⟨rfl, rfl⟩

theorem QueueKept.trans {s t u : State} (h : QueueKept s t) (k : QueueKept t u) : QueueKept s u :=
  ⟨k.1.trans h.1, k.2.trans h.2⟩

theorem QueueKept.ite {s t u : State} {c : Prop} [Decidable c] (ht : QueueKept s t) (hu : QueueKept s u) :
    QueueKept s (if c then t else u) := by split <;> assumption

theorem QueueKept.foldl {α : Type} {g : State → α → State} (h : ∀ t a, QueueKept t (g t a)) (l : List α) (s : State) :
    QueueKept s (l.foldl g s) := by
  induction l generalizing s with
  | nil => exact .refl s
  | cons a l ih => exact (h s a).trans (ih _)

theorem QueueKept.ofOutside {s t : State} (h : OutsideFrame s t) : QueueKept s t := ⟨h.pending, h.readerPref⟩

theorem QueueKept.ofJob {s t : State} (h : JobFrame s t) : QueueKept s t := .ofOutside h.toOutsideFrame

theorem QueueKept.thenCountSvr {s t : State} (h : QueueKept s t) (g : SvrCtr → SvrCtr) : QueueKept s (t.countSvr g) := h

theorem QueueKept.thenRse {s t : State} (h : QueueKept s t) (x : Rse) : QueueKept s (t.setRse x) := h

theorem QueueKept.thenSvr {s t : State} (h : QueueKept s t) (x : Svr) : QueueKept s (t.setSvr x) := h

theorem QueueKept.thenWarm {s t : State} (h : QueueKept s t) (x : Counters) : QueueKept s (warmValues (t.setCtr x)) := h

/-! ### The frame path keeps the queue -/

theorem queueKept_chooseTx (p : PortId) (s : State) : QueueKept s (chooseTx p s) := ⟨by simp, by simp⟩

theorem queueKept_placeFrame (p : PortId) (src : TxSource) (f : Frame) (s : State) : QueueKept s (placeFrame p src f s) :=
  ⟨by simp, by simp⟩

theorem queueKept_enterDown (p : PortId) (s : State) : QueueKept s (enterDown p s) := by
  cases p <;> simp [QueueKept, enterDown, emptySources]

theorem queueKept_settleOutcome (p : PortId) (o : TxOutcome) (s : State) : QueueKept s (settleOutcome p o s) := by
  cases o with
  | sent => exact .refl s
  | abandoned =>
    unfold settleOutcome
    exact .ite (.ite (queueKept_enterDown p (s.setPort p _)) (.refl s)) (.refl s)

theorem queueKept_endTransmission (p : PortId) (o : TxOutcome) (s : State) : QueueKept s (endTransmission p o s) := by
  unfold endTransmission
  split
  · exact .refl s
  · next t _ =>
    have counted : QueueKept s (countOutcome p o (s.setPort p { s.port p with tx := none })) := by cases o <;> exact .refl s
    exact (QueueKept.ite counted (counted.trans (queueKept_settleOutcome p o _))).trans (queueKept_chooseTx p _)

theorem queueKept_receiveFrame (p : PortId) (f : Frame) (s : State) : QueueKept s (receiveFrame p f s) := by
  unfold receiveFrame
  exact .ite (.refl s) (.refl s)

theorem queueKept_forwardFrame (p : PortId) (f : Frame) (s : State) : QueueKept s (forwardFrame p f s) := by
  unfold forwardFrame
  exact .ite (queueKept_placeFrame _ _ f (s.countPort p _)) (.refl s)

theorem queueKept_rewriteTorque (f : Frame) (i j : Nat) (s : State) : QueueKept s (rewriteTorque f i j s).2 := by
  unfold rewriteTorque
  split
  · exact .refl s
  · exact .refl s
  · exact .ite (.refl s) (.ite (.refl s) (.refl s))

theorem queueKept_routeAction (a : RouteAction) (p : PortId) (f : Frame) (s : State) : QueueKept s (routeAction a p f s) := by
  have tapped (c : Fin 48) (t : State) : QueueKept t (tapFrame c f t) := .ofOutside (tapFrame_outside c f t)
  cases a with
  | pass => exact queueKept_forwardFrame p f s
  | tap c => exact tapped c (countConsumed p s)
  | passTap c => exact (tapped c s).trans (queueKept_forwardFrame p f _)
  | rewrite i j =>
    have rewritten := queueKept_rewriteTorque f i j s
    unfold routeAction
    dsimp only
    split
    · next e => rw [e] at rewritten; exact rewritten
    · next e => rw [e] at rewritten; exact rewritten.trans (queueKept_forwardFrame p _ _)
  | drop => exact .refl s

/-! ### The schedule keeps the queue -/

theorem queueKept_takePulse (ok : Bool) (k : Corner) (s : State) : QueueKept s (takePulse ok k s).2 := by
  unfold takePulse
  split
  · exact .refl s
  · exact .refl s
  · split <;> exact .refl s

theorem queueKept_valveContents (j k : Corner) (s : State) : QueueKept s (valveContents j k s).2 := by
  have taken := (queueKept_takePulse s.rhc.airOk j s).trans (queueKept_takePulse s.rhc.airOk k _)
  have air (t : State) : JobFrame t (blockEvent (fun u => evalKneelGate (evalAir u)) t) :=
    blockEvent_frame (fun u => (evalAir_frame u).trans (evalKneelGate_frame _)) t
  exact .ite (taken.trans (.ofJob (air _))) taken

theorem queueKept_takeContents (k : GenKind) (s : State) : QueueKept s (takeContents k s).2 := by
  cases k with
  | rsc | bac | dcm | gst => exact .refl s
  | vlc1 | vlc2 | vlc3 => exact queueKept_valveContents _ _ s

theorem queueKept_takeEntry (i : Fin 32) (e : SchedEntry) (s : State) : QueueKept s (takeEntry i e s) := by
  have built (x : List Byte) {t : State} (h : QueueKept s t) : QueueKept s ((setRepeat i false (buildFrame e x t).2).countTxs
      fun k => { k with scheduled := vmodify k.scheduled e.kind.idx bump }) := h
  exact .ite ⟨rfl, rfl⟩ ((built (takeContents e.kind s).1 (queueKept_takeContents e.kind s)).trans (queueKept_placeFrame _ _ _ _))

theorem queueKept_slotReached (s : State) : QueueKept s (slotReached s) := by
  have served (j : Fin 20) (t : State) (i : Fin 32) : QueueKept t (serveEntry j i t) := by
    unfold serveEntry
    split
    · exact .ite (queueKept_takeEntry i _ t) (.refl t)
    · exact .refl t
  unfold slotReached
  exact .ite (.refl s) (QueueKept.foldl (served _) schedIndices (State.setTxs (s.setNow (s.now + 1)) _))

/-! ### A service request keeps the queue -/

theorem queueKept_changeMode (m : Mode) (s : State) : QueueKept s (changeMode m s) := by
  have begun : QueueKept s ((if s.mode = .config then applySvcIds s else s).setMode m) :=
    QueueKept.ite (c := s.mode = .config) (t := applySvcIds s) ⟨rfl, rfl⟩ (.refl s)
  have reported (t : State) : QueueKept t (reportSource .mode (m != .run)
      (blockEvent (request .mode (m != .run)) (evaluateInput (setHold .mode (m != .run) t)))) :=
    .ofJob ((((setHold_frame _ _ t).trans (evaluateInput_frame _)).trans (blockEvent_frame (request_frame _ _) _)).trans
      (reportSource_frame _ _ _))
  exact (begun.trans (reported _)).thenCountSvr _

theorem queueKept_modeRequest (x : Nat) (s : State) : QueueKept s (modeRequest x s).state := by
  have committed (m : Mode) : QueueKept s (commitMode m s).state := by
    unfold commitMode
    split
    · exact .refl s
    · have changed := queueKept_changeMode m (setCommit .ok s)
      exact changed
  have moved (m : Mode) : QueueKept s (modeTo m s).state := by
    unfold modeTo
    split
    · exact .refl s
    · split
      · exact .refl s
      · split
        · split
          · exact queueKept_changeMode m s
          · exact .refl s
        · exact committed m
  unfold modeRequest
  split
  · exact moved .run
  · split
    · exact moved .service
    · exact .refl s

theorem queueKept_paramWrite (n : Nat) (v : Int) (s : State) : QueueKept s (paramWrite n v s).state := by
  unfold paramWrite
  split
  · exact .refl s
  · next k _ =>
    have written : QueueKept s (blockEvent (paramEffect k) (s.setParams (s.params.set k v))) :=
      .ofJob (s := s.setParams (s.params.set k v)) (blockEvent_frame (paramEffect_frame k) _)
    split
    · exact .refl s
    · split
      · exact .refl s
      · split
        · exact .refl s
        · exact written

theorem queueKept_tableOpen (n i : Nat) (s : State) : QueueKept s (tableOpen n i s).state := by
  unfold tableOpen
  split
  · exact .refl s
  · next t _ => cases t <;> (repeat' split) <;> exact ⟨rfl, rfl⟩

/-- A record write that is taken keeps the queue. -/
theorem queueKept_writeRecord {t : TableId} {i : Nat} {p : List Byte} {s u : State} (h : writeRecord t i p s = .ok u) :
    QueueKept s u := by
  have taken {α : Type} {r : Option α} {g : α → State} (h : takenIf r g = .ok u) (hg : ∀ x, QueueKept s (g x)) :
      QueueKept s u := by
    cases r with
    | none => cases h
    | some x => cases h; exact hg x
  unfold writeRecord at h
  cases t with
  | route =>
    dsimp only at h
    split at h
    · exact taken h fun _ => ⟨rfl, rfl⟩
    · cases h
  | channel =>
    dsimp only at h
    split at h
    · exact taken h fun x => .ofOutside (writeChannel_outside _ x s)
    · cases h
  | binding =>
    dsimp only at h
    split at h
    · exact taken h fun x => .ofOutside (writeBinding_outside _ x s)
    · cases h
  | schedule =>
    dsimp only at h
    split at h
    · exact taken h fun _ => ⟨rfl, rfl⟩
    · cases h
  | door =>
    dsimp only at h
    split at h
    · unfold writeDoor at h
      split at h
      · cases h
      · split at h <;> cases h
        exact ⟨rfl, rfl⟩
    · cases h
  | kneelOffset =>
    dsimp only at h
    split at h
    · refine taken h fun v => ?_
      unfold writeOffset
      exact .ite ⟨rfl, rfl⟩ ⟨rfl, rfl⟩
    · cases h
  | profile q => cases h; exact ⟨rfl, rfl⟩

theorem queueKept_tableWrite (p : List Byte) (s : State) : QueueKept s (tableWrite p s).state := by
  unfold tableWrite
  split
  · exact .refl s
  · split
    · exact .refl s
    · split
      · exact .refl s
      · split
        · exact .refl s
        · next u e => exact (queueKept_writeRecord e).thenSvr _

theorem queueKept_tableRead (s : State) : QueueKept s (tableRead s).state := by
  unfold tableRead
  (repeat' split) <;> exact ⟨rfl, rfl⟩

theorem queueKept_tableClose (s : State) : QueueKept s (tableClose s).state := by
  unfold tableClose
  split
  · exact .refl s
  · next t _ _ =>
    cases t <;> dsimp only
    case profile p => split <;> exact ⟨rfl, rfl⟩
    all_goals exact ⟨rfl, rfl⟩

theorem queueKept_profileSelect (p k : Nat) (s : State) : QueueKept s (profileSelect p k s).state := by
  unfold profileSelect
  (repeat' split) <;> exact ⟨rfl, rfl⟩

theorem queueKept_counterClear (n : Nat) (s : State) : QueueKept s (counterClear n s).state := by
  have cleared (t : State) (n : Nat) : QueueKept t (clearGroup n t) := by
    unfold clearGroup
    split <;> exact ⟨rfl, rfl⟩
  unfold counterClear
  split
  · exact QueueKept.foldl cleared _ s
  · split
    · exact cleared s n
    · exact .refl s

theorem queueKept_faultClear (n : Nat) (s : State) : QueueKept s (faultClear n s).state := by
  unfold faultClear
  split
  · unfold faultClearRse
    split
    · exact .refl s
    · split
      · exact .refl s
      · split
        · exact .refl s
        · exact .ofJob (clearSteerFault_frame s)
  · split
    · exact .ofJob (clearKneelFault_frame s)
    · exact .refl s

theorem queueKept_restartRequest (s : State) : QueueKept s (restartRequest s).state := by
  have reset := (QueueKept.ofOutside (unitResetSgm_outside s)).thenWarm (countRestart s).ctr
  unfold restartRequest
  split
  · exact .refl s
  · split
    · exact .refl s
    · exact reset

theorem queueKept_unitResetRse (s : State) : QueueKept s (unitResetRse s) := by
  have completed : QueueKept s (completeCrossfade (clearTrace s)) := by
    unfold completeCrossfade
    split <;> exact ⟨rfl, rfl⟩
  exact (completed.trans (.ofJob (clearSteerFault_frame _))).thenRse _

theorem queueKept_unitReset (n : Nat) (s : State) : QueueKept s (unitReset n s).state := by
  have guarded {g : State → State} (h : QueueKept s (g s)) :
      QueueKept s (if s.mode = .service then okay (g s) else refuse .wrongMode s).state := by
    split
    · exact h
    · exact .refl s
  unfold unitReset
  dsimp only
  split
  · exact .refl s
  · next g e =>
    refine guarded ?_
    split at e
    · obtain rfl := Option.some.inj e
      exact .ofOutside (unitResetSgm_outside s)
    · split at e
      · obtain rfl := Option.some.inj e
        exact queueKept_unitResetRse s
      · split at e
        · obtain rfl := Option.some.inj e
          exact .ofJob (blockEvent_frame unitResetRhc_frame s)
        · split at e
          · obtain rfl := Option.some.inj e
            exact ⟨rfl, rfl⟩
          · cases e

/-- Every request leaves the queue and the order of readers alone, whether it is refused or has its effect. -/
theorem queueKept_handle (q : Request) (s : State) : QueueKept s (q.handle s).state := by
  cases q with
  | identify | snapshot => exact ⟨rfl, rfl⟩
  | modeRequest m => exact queueKept_modeRequest m s
  | paramRead n =>
    unfold Request.handle paramRead
    dsimp only
    split <;> exact .refl s
  | paramWrite n v => exact queueKept_paramWrite n v s
  | tableOpen t i => exact queueKept_tableOpen t i s
  | tableWrite p => exact queueKept_tableWrite p s
  | tableRead => exact queueKept_tableRead s
  | tableClose => exact queueKept_tableClose s
  | profileSelect p k => exact queueKept_profileSelect p k s
  | stateRead u p =>
    unfold Request.handle stateRead
    dsimp only
    (repeat' split) <;> exact .refl s
  | counterRead g i =>
    unfold Request.handle counterRead
    dsimp only
    (repeat' split) <;> exact .refl s
  | counterClear g => exact queueKept_counterClear g s
  | faultClear u => exact queueKept_faultClear u s
  | inhibitSet | inhibitClear => exact .ofJob (reportSource_frame _ _ s)
  | restart => exact queueKept_restartRequest s
  | unitReset u => exact queueKept_unitReset u s

theorem queueKept_takeRequest (code tag : Byte) {h : State → Reply} {s : State} (hs : QueueKept s (h s).state) :
    QueueKept s (takeRequest code tag h s) :=
  .ite ⟨rfl, rfl⟩ (hs.trans (queueKept_placeFrame .cab .response _ (State.countSvr _ _)))

theorem queueKept_serve (q : Request) (tag : Byte) (s : State) : QueueKept s (serve q tag s) :=
  queueKept_takeRequest q.code tag (queueKept_handle q s)

theorem queueKept_takePayload (p : List Byte) (s : State) : QueueKept s (takePayload p s) := by
  have handled (p : List Byte) : QueueKept s (handlePayload p s).state := by
    unfold handlePayload
    split
    · next q _ _ =>
      split
      · exact queueKept_handle q s
      · exact .refl s
    · exact .refl s
  unfold takePayload
  split
  · exact queueKept_takeRequest _ _ (handled _)
  · exact .ite ⟨rfl, rfl⟩ ⟨rfl, rfl⟩

theorem queueKept_classifyHead (p : PortId) (s : State) : QueueKept s (classifyHead p s) := by
  have classified (f : Frame) (t : State) : QueueKept t (classify p f t) := by
    unfold classify
    refine .ite ?_ (.ite ⟨rfl, rfl⟩ (.ite ⟨rfl, rfl⟩ (queueKept_routeAction _ p f t)))
    exact queueKept_takePayload f.payload (countConsumed p t)
  unfold classifyHead
  split
  · exact .refl s
  · exact classified _ (s.setPort p _)

/-! ### The two statements about the step -/

/-- Settles O1: `step` matches on the front of the queue. -/
theorem stepTakesTheFrontCommand : Obligations.StepTakesTheFrontCommand := by
  unfold Obligations.StepTakesTheFrontCommand
  refine ⟨fun c q s => rfl, fun s h => ?_⟩
  unfold step
  rw [h]

/-- A command answers the next state that its block's function gives, with the queue kept. -/
theorem exec_next (c : Instr) (s : State) : ∃ t, exec c s = .next t ∧ QueueKept s t := by
  cases c with
  | coldReset => exact ⟨_, rfl, rfl, rfl⟩
  | frameReception p f => exact ⟨_, rfl, queueKept_receiveFrame p f s⟩
  | frameClassification p => exact ⟨_, rfl, queueKept_classifyHead p s⟩
  | transmissionEnd p o => exact ⟨_, rfl, queueKept_endTransmission p o s⟩
  | recoveryTimerExpiry p => exact ⟨_, rfl, .ite ⟨rfl, rfl⟩ (.refl s)⟩
  | slotArrival => exact ⟨_, rfl, queueKept_slotReached s⟩
  | freshnessTimerExpiry c => exact ⟨_, rfl, .ofOutside (freshnessExpired_outside c s)⟩
  | staleTimerExpiry c => exact ⟨_, rfl, .ofOutside (staleExpired_outside c s)⟩
  | wakeTimerExpiry k => exact ⟨_, rfl, .ofJob (blockEvent_frame (wakeExpired_frame k) s)⟩
  | kneelTimerExpiry => exact ⟨_, rfl, .ofJob (blockEvent_frame kneelTimerExpired_frame s)⟩
  | raiseTimerExpiry => exact ⟨_, rfl, .ofJob (blockEvent_frame raiseTimerExpired_frame s)⟩
  | prepTimerExpiry d => exact ⟨_, rfl, .ofJob (blockEvent_frame (prepExpired_frame d) s)⟩
  | dwellTimerExpiry d => exact ⟨_, rfl, .ofJob (blockEvent_frame (dwellExpired_frame d) s)⟩
  | warnTimerExpiry d => exact ⟨_, rfl, .ofJob (blockEvent_frame (warnExpired_frame d) s)⟩
  | deadlineExpiry k => exact ⟨_, rfl, .ofJob (blockEvent_frame (expire_frame k) s)⟩
  | releaseGapExpiry => exact ⟨_, rfl, .ite (.ofJob (enterPermitted_frame s)) (.refl s)⟩
  | identify tag | modeRequest tag m | paramRead tag n | paramWrite tag n v | tableOpen tag t i | tableWrite tag r
  | tableRead tag | tableClose tag | profileSelect tag p k | stateRead tag u p | snapshot tag | counterRead tag g i
  | counterClear tag g | faultClearRse tag | faultClearRhc tag | inhibitSet tag | inhibitClear tag | restart tag
  | unitResetRse tag | unitResetRhc tag | unitResetSgm tag | unitResetTxs tag => exact ⟨_, rfl, queueKept_serve _ _ s⟩

/-- Settles O2: each of the thirty-eight commands answers a next state that keeps the queue. -/
theorem everyCommandCompletes : Obligations.EveryCommandCompletes := exec_next

/-! ### The timers of a channel (R16, R17) -/

/-- A running timer has come to its end when its time is not after the clock (R2). -/
theorem ended_iff (x : Timer) (n : Nat) : x.ended n = true ↔ ∃ due, x = .running due ∧ due ≤ n := by
  cases x with
  | stopped => simp
  | running due => simp

/-- A signal's event, and the moves of its binding before it, leave the channels and their counters as they were (R20 to R22). -/
theorem settleSignal_channels (g : Sig) (b s : State) :
    (settleSignal g false b s).sgm.channels = s.sgm.channels ∧
      (settleSignal g false b s).ctr.sgm.chans = s.ctr.sgm.chans := by
  have selected : (evalSelection g s).sgm.channels = s.sgm.channels ∧
      (evalSelection g s).ctr.sgm.chans = s.ctr.sgm.chans := by
    unfold evalSelection
    split
    · exact ⟨rfl, rfl⟩
    · dsimp only
      split <;> exact ⟨rfl, rfl⟩
  have told (w : Bool) (r : Reading) (t : State) :
      (signalEvent g false w r t).sgm = t.sgm ∧ (signalEvent g false w r t).ctr.sgm = t.ctr.sgm := by
    unfold signalEvent
    dsimp only
    split
    · exact ⟨(deliver_frame _ t).sgm, (deliver_frame _ t).sgmCtr⟩
    · exact ⟨rfl, rfl⟩
  unfold settleSignal
  dsimp only
  rw [(told _ _ _).1, (told _ _ _).2]
  exact selected

/-- Settles O35: the two expiries channel by channel; what a change of the state sets off is `settleSignal`. -/
theorem channelTimersAgeTheChannel : Obligations.ChannelTimersAgeTheChannel := by
  unfold Obligations.ChannelTimersAgeTheChannel
  intro c s
  refine ⟨ended_iff, ?_⟩
  have fresh : exec (.freshnessTimerExpiry c) s = .next (freshnessExpired c s) := rfl
  have stale : exec (.staleTimerExpiry c) s = .next (staleExpired c s) := rfl
  have freshOutside := freshnessExpired_outside c s
  have staleOutside := staleExpired_outside c s
  rw [fresh, stale]
  cases hc : s.sgm.channels[c] with
  | none => simp only [freshnessExpired, staleExpired, hc, and_self]
  | some ch =>
    dsimp only
    refine ⟨?_, ?_⟩
    · cases h : ch.run.freshTimer.ended s.now with
      | false => simp [freshnessExpired, hc, h]
      | true =>
        by_cases hs : ch.run.state = .fresh
        · rw [if_neg (by simp), if_neg (by simpa using hs)]
          refine ⟨_, rfl, freshOutside, ?_⟩
          simp only [freshnessExpired, hc, h, hs, if_true]
          exact settleSignal_channels _ _ _
        · rw [if_neg (by simp), if_pos hs]
          simp only [freshnessExpired, hc, h, hs, if_true, if_false]
          rfl
    · cases h : ch.run.staleTimer.ended s.now with
      | false => simp [staleExpired, hc, h]
      | true =>
        by_cases hs : ch.run.state = .suspect
        · rw [if_neg (by simp), if_neg (by simpa using hs)]
          refine ⟨_, rfl, staleOutside, ?_⟩
          simp only [staleExpired, hc, h, hs, if_true]
          exact settleSignal_channels _ _ _
        · rw [if_neg (by simp), if_pos hs]
          simp only [staleExpired, hc, h, hs, if_true, if_false]
          rfl

/-! ### Which counters the combiner and the urgent path change -/

theorem reformCombined_ctr (s : State) : ∃ x, (reformCombined s).ctr = { s.ctr with tic := x } := by
  unfold reformCombined
  split
  · exact ⟨_, rfl⟩
  · exact ⟨_, rfl⟩
  · split <;> exact ⟨_, rfl⟩
  · exact ⟨_, rfl⟩

theorem reportSource_ctr (k : Source) (b : Bool) (s : State) : ∃ x, (reportSource k b s).ctr = { s.ctr with tic := x } := by
  unfold reportSource
  split
  · exact ⟨_, rfl⟩
  · obtain ⟨x, hx⟩ := reformCombined_ctr (changeSource k b s)
    refine ⟨x, hx.trans ?_⟩
    cases b <;> rfl

theorem setStopBrake_ctr (b : StopBrake) (s : State) : ∃ x, (setStopBrake b s).ctr = { s.ctr with tic := x } :=
  reportSource_ctr _ _ ((s.setBdu { s.bdu with stopBrake := b }).setLines { s.lines with stopHold := b.holding })

theorem setStopBrake_ctr_bdu (b : StopBrake) (s : State) : (setStopBrake b s).ctr.bdu = s.ctr.bdu := by
  obtain ⟨x, hx⟩ := setStopBrake_ctr b s
  rw [hx]

theorem setStopBrake_ctr_cft (b : StopBrake) (s : State) : (setStopBrake b s).ctr.cft = s.ctr.cft := by
  obtain ⟨x, hx⟩ := setStopBrake_ctr b s
  rw [hx]

theorem setStopBrake_ctr_dic (b : StopBrake) (s : State) : (setStopBrake b s).ctr.dic = s.ctr.dic := by
  obtain ⟨x, hx⟩ := setStopBrake_ctr b s
  rw [hx]

theorem placeFrame_ctr (p : PortId) (src : TxSource) (f : Frame) (s : State) :
    ∃ x, (placeFrame p src f s).ctr = { s.ctr with frt := x } := by
  unfold placeFrame
  split
  · exact ⟨s.ctr.frt, by rw [chooseTx_ctr, putInSource_ctr]⟩
  · split <;> exact ⟨_, rfl⟩

theorem urgentRequest_ctr (k : GenKind) (x : List Byte) (s : State) :
    ∃ y z, (urgentRequest k x s).ctr = { s.ctr with txs := y, frt := z } := by
  unfold urgentRequest
  split
  · exact ⟨_, _, rfl⟩
  · split
    · exact ⟨_, _, rfl⟩
    · next e _ =>
      split
      · exact ⟨_, _, rfl⟩
      · obtain ⟨z, hz⟩ := placeFrame_ctr .chassis .urgent (buildFrame e x s).1 (buildFrame e x s).2
        exact ⟨(countUrgent k (fun c => { c with builds := bump c.builds }) (placeFrame .chassis .urgent
          (buildFrame e x s).1 (buildFrame e x s).2)).ctr.txs, z, by simp only [countUrgent, State.countTxs, State.setCtr, hz]; rfl⟩

/-! ### Doors left as they were -/

/-- A door's record and its counters are left as they were. -/
def DoorKept (d : Door) (s t : State) : Prop := t.door d = s.door d ∧ t.ctr.dic.get d = s.ctr.dic.get d

/-- Every door whose record has a property is left as it was. -/
def DoorsKept (P : DoorRec → Prop) (s t : State) : Prop := ∀ d, P (s.door d) → DoorKept d s t

section
variable {P Q : DoorRec → Prop} {s t u : State}

theorem DoorKept.trans {d : Door} (h : DoorKept d s t) (k : DoorKept d t u) : DoorKept d s u :=
  ⟨k.1.trans h.1, k.2.trans h.2⟩

theorem DoorsKept.of_eq (hd : t.dic = s.dic) (hc : t.ctr.dic = s.ctr.dic) : DoorsKept P s t := by
  intro d _
  simp only [DoorKept, State.door, hd, hc, and_self]

theorem DoorsKept.refl (s : State) : DoorsKept P s s := .of_eq rfl rfl

theorem DoorsKept.trans (h : DoorsKept P s t) (k : DoorsKept P t u) : DoorsKept P s u := by
  intro d hd
  refine (h d hd).trans (k d ?_)
  rw [(h d hd).1]
  exact hd

theorem DoorsKept.ite {c : Prop} [Decidable c] (ht : DoorsKept P s t) (hu : DoorsKept P s u) :
    DoorsKept P s (if c then t else u) := by split <;> assumption

theorem DoorsKept.mono (h : DoorsKept P s t) (w : ∀ r, Q r → P r) : DoorsKept Q s t := fun d hd => h d (w _ hd)

end

/-! ### What the gates leave alone (R94, R108, R113, R139) -/

/-- What the evaluations of the release gates and of the kneel gate, and the urgent DCM, leave alone: every door that is not
PREPARING, the brake unit and the tracker with their counters, and STOP_HOLD. -/
structure GateFrame (s t : State) : Prop where
  doors : DoorsKept (fun r => r.state ≠ .preparing) s t
  cft : t.cft = s.cft
  bdu : t.bdu = s.bdu
  stopHold : t.lines.stopHold = s.lines.stopHold
  bduCtr : t.ctr.bdu = s.ctr.bdu
  cftCtr : t.ctr.cft = s.ctr.cft

theorem GateFrame.refl (s : State) : GateFrame s s := ⟨.refl s, rfl, rfl, rfl, rfl, rfl⟩

theorem GateFrame.trans {s t u : State} (h : GateFrame s t) (k : GateFrame t u) : GateFrame s u :=
  ⟨h.doors.trans k.doors, k.cft.trans h.cft, k.bdu.trans h.bdu, k.stopHold.trans h.stopHold, k.bduCtr.trans h.bduCtr,
   k.cftCtr.trans h.cftCtr⟩

theorem GateFrame.ite {s t u : State} {c : Prop} [Decidable c] (ht : GateFrame s t) (hu : GateFrame s u) :
    GateFrame s (if c then t else u) := by split <;> assumption

theorem GateFrame.foldl {α : Type} {g : State → α → State} (h : ∀ t a, GateFrame t (g t a)) (l : List α) (s : State) :
    GateFrame s (l.foldl g s) := by
  induction l generalizing s with
  | nil => exact .refl s
  | cons a l ih => exact (h s a).trans (ih _)

theorem gateFrame_setRhc (s : State) (x : Rhc) : GateFrame s (s.setRhc x) := ⟨.of_eq rfl rfl, rfl, rfl, rfl, rfl, rfl⟩

theorem gateFrame_setHold (k : HoldReason) (b : Bool) (s : State) : GateFrame s (setHold k b s) :=
  ⟨.of_eq rfl rfl, rfl, rfl, rfl, rfl, rfl⟩

theorem gateFrame_reportSource (k : Source) (b : Bool) (s : State) : GateFrame s (reportSource k b s) := by
  obtain ⟨x, hx⟩ := reportSource_ctr k b s
  exact ⟨.of_eq (by simp) (by rw [hx]), by simp, by simp, by simp, by rw [hx], by rw [hx]⟩

theorem gateFrame_urgentDcm (s : State) : GateFrame s (urgentDcm s) := by
  obtain ⟨y, z, h⟩ := urgentRequest_ctr .dcm s.dcmFields s
  unfold urgentDcm
  exact ⟨.of_eq (by simp) (by rw [h]), by simp, by simp, by simp, by rw [h], by rw [h]⟩

theorem gateFrame_evalGate (d : Door) (s : State) : GateFrame s (evalGate d s) := by
  rcases evalGate_cases d s with ⟨hp, _, e⟩ | ⟨_, e⟩ <;> rw [e]
  · refine ⟨fun j hj => ?_, rfl, rfl, rfl, rfl, rfl⟩
    have ne : j ≠ d := fun h => hj (h ▸ hp)
    simp [DoorKept, releaseDoor, State.countDoor, State.setCtr, State.door, State.putDoor, State.setDic, ne]
  · exact .refl s

theorem gateFrame_evalGates (s : State) : GateFrame s (evalGates s) :=
  .foldl (fun t d => gateFrame_evalGate d t) allDoors s

theorem gateFrame_forceActive (s : State) : GateFrame s (forceActive s) := gateFrame_setRhc s _

theorem gateFrame_setLevel (m : LevelMode) (s : State) : GateFrame s (setLevel m s) :=
  ((gateFrame_setRhc s { s.rhc with level := m }).trans (gateFrame_setRhc _ _)).trans (gateFrame_reportSource _ _ _)

theorem gateFrame_enterKnelt (s : State) : GateFrame s (enterKnelt s) :=
  ((gateFrame_setRhc s { s.rhc with kneel := .knelt, kneelTimer := .stopped }).trans (gateFrame_setRhc _ _)).trans
    (gateFrame_evalGates _)

theorem gateFrame_markIncomplete (s : State) : GateFrame s (markIncomplete s) := .ite (gateFrame_setRhc s _) (.refl s)

theorem gateFrame_checkLowered (s : State) : GateFrame s (checkLowered s) :=
  .ite ((gateFrame_markIncomplete s).trans (gateFrame_enterKnelt _)) (.refl s)

theorem gateFrame_enterLowering (s : State) : GateFrame s (enterLowering s) := by
  have levelled := (gateFrame_setRhc s { s.rhc with
    kneel := .lowering, pending := .none, incomplete := false
    kneelTimer := s.timer (s.parN .kneelTimeout), raiseTimer := .stopped }).trans (gateFrame_setLevel .kneel _)
  have reported := ((((levelled.trans (gateFrame_forceActive _)).trans (gateFrame_setHold .kneel true _)).trans
    (gateFrame_reportSource .kneel true _)).trans (gateFrame_evalGates _))
  exact .ite (reported.trans (gateFrame_checkLowered _)) reported

theorem gateFrame_evalKneelGate (s : State) : GateFrame s (evalKneelGate s) := .ite (gateFrame_enterLowering s) (.refl s)

/-! ### What one event at a block adds to its handling (R108, R138, R139) -/

theorem gateFrame_withDcm (g : State → State) (s : State) : GateFrame (g s) (withDcm g s) :=
  .ite (.refl _) (gateFrame_urgentDcm _)

theorem gateFrame_almostFullEnded (s : State) : GateFrame s (almostFullEnded s) :=
  ((gateFrame_evalGates s).trans (gateFrame_withDcm evalGates s)).trans (gateFrame_evalKneelGate _)

theorem gateFrame_blockEvent (g : State → State) (s : State) : GateFrame (g s) (blockEvent g s) :=
  .ite ((gateFrame_withDcm g s).trans (gateFrame_almostFullEnded _)) (gateFrame_withDcm g s)

/-- Below three entries there is no almost-full condition to end, and no door changes after the handling. -/
theorem doorsKept_blockEvent {g : State → State} {s : State} (h : s.cft.length < 3) (P : DoorRec → Prop) :
    DoorsKept P (g s) (blockEvent g s) := by
  have notFull : s.almostFull = false := decide_eq_false (Nat.not_le.mpr h)
  obtain ⟨y, z, hc⟩ := urgentRequest_ctr .dcm (g s).dcmFields (g s)
  simp only [blockEvent, notFull, Bool.false_and, Bool.false_eq_true, if_false, withDcm]
  exact .ite (.refl _) (.of_eq (by simp [urgentDcm]) (by rw [urgentDcm, hc]))

/-- A handling that leaves the door actions and the queue alone is all there is to the event. -/
theorem blockEvent_of_quiet {g : State → State} {s : State} (hd : (g s).doorActions = s.doorActions) (hc : (g s).cft = s.cft) :
    blockEvent g s = g s := by
  have same : (g s).almostFull = s.almostFull := by simp only [State.almostFull, hc]
  have alone : withDcm g s = g s := if_pos hd
  simp only [blockEvent, alone, same, Bool.and_not_self, Bool.false_eq_true, if_false]

/-- A handling that does nothing is an event that does nothing. -/
theorem blockEvent_of_eq {g : State → State} {s : State} (h : g s = s) : blockEvent g s = s := by
  rw [blockEvent_of_quiet (by rw [h]) (by rw [h]), h]

/-! ### The deadlines (R72, R74, R119, R122, R137) -/

theorem overdue_iff (s : State) (k : ExpKey) : s.overdue k = true ↔ ∃ e ∈ s.cft, e.key = k ∧ e.due ≤ s.now := by
  simp [State.overdue]

/-- The state that the tracker reports a timeout on: the entry removed and the timeout counted (R137). -/
def timeoutCounted (k : ExpKey) (s : State) : State :=
  countKind k (fun c => { c with timedOut := bump c.timedOut }) (s.setCft (dropKey k s.cft))

theorem expire_of_overdue {k : ExpKey} {s : State} (h : s.overdue k = true) :
    expire k s = reportFailed k (timeoutCounted k s) := if_pos h

/-- A timed-out DOOR_LOCK after the withdrawal (R119, R122). -/
theorem doorLock_timeout {d : Door} {s : State} (h : (s.door d).withdrawn = true) :
    let t := reportFailed (.doorLock d) (timeoutCounted (.doorLock d) s)
    t.door d = { s.door d with state := .fault, faultFlag := true, dwell := .stopped } ∧
      (t.ctr.dic.get d).faults = bump (s.ctr.dic.get d).faults ∧ t.ctr.cft.doorLock.timedOut = bump s.ctr.cft.doorLock.timedOut := by
  have failed : reportFailed (.doorLock d) (timeoutCounted (.doorLock d) s) =
      ((timeoutCounted (.doorLock d) s).putDoor d { s.door d with state := .fault, faultFlag := true, dwell := .stopped }).countDoor d
        fun k => { k with faults := bump k.faults } := if_pos h
  rw [failed]
  refine ⟨State.door_putDoor .. |>.trans (if_pos rfl), ?_, rfl⟩
  simp [State.countDoor, State.setCtr, timeoutCounted, countKind, State.countCft]

/-- A timed-out STOP_APPLY in APPLYING (R72). -/
theorem stopApply_timeout {s : State} (h : s.bdu.stopBrake = .applying) :
    let t := reportFailed .stopApply (timeoutCounted .stopApply s)
    t.bdu = { s.bdu with stopBrake := .fault } ∧ t.lines.stopHold = true ∧ t.ctr.bdu.applyFaults = bump s.ctr.bdu.applyFaults ∧
      t.ctr.cft.stopApply.timedOut = bump s.ctr.cft.stopApply.timedOut := by
  have failed : reportFailed .stopApply (timeoutCounted .stopApply s) =
      (setStopBrake .fault (timeoutCounted .stopApply s)).countBdu fun c => { c with applyFaults := bump c.applyFaults } := by
    have h' : (timeoutCounted .stopApply s).bdu.stopBrake = .applying := h
    simp only [reportFailed, stopBrakeFailed, h']
  obtain ⟨bdu, line, -⟩ := setStopBrake_sets .fault (timeoutCounted .stopApply s)
  rw [failed]
  exact ⟨bdu, line, congrArg (fun c : BduCtr => bump c.applyFaults) (setStopBrake_ctr_bdu ..),
    congrArg (fun c : CftCtr => c.stopApply.timedOut) (setStopBrake_ctr_cft ..)⟩

/-- A timed-out STOP_RELEASE in RELEASING (R74). -/
theorem stopRelease_timeout {s : State} (h : s.bdu.stopBrake = .releasing) :
    let t := reportFailed .stopRelease (timeoutCounted .stopRelease s)
    t.bdu = { s.bdu with stopBrake := .released, drag := true } ∧ t.lines.stopHold = false ∧
      t.ctr.bdu.drags = bump s.ctr.bdu.drags ∧ t.ctr.cft.stopRelease.timedOut = bump s.ctr.cft.stopRelease.timedOut := by
  have failed : reportFailed .stopRelease (timeoutCounted .stopRelease s) =
      ((setStopBrake .released (timeoutCounted .stopRelease s)).setBdu
        { (setStopBrake .released (timeoutCounted .stopRelease s)).bdu with drag := true }).countBdu
          fun c => { c with drags := bump c.drags } := by
    have h' : (timeoutCounted .stopRelease s).bdu.stopBrake = .releasing := h
    simp only [reportFailed, stopBrakeFailed, h']
  obtain ⟨bdu, line, -⟩ := setStopBrake_sets .released (timeoutCounted .stopRelease s)
  rw [failed]
  exact ⟨congrArg (fun b : Bdu => { b with drag := true }) bdu, line,
    congrArg (fun c : BduCtr => bump c.drags) (setStopBrake_ctr_bdu ..),
    congrArg (fun c : CftCtr => c.stopRelease.timedOut) (setStopBrake_ctr_cft ..)⟩

/-- Settles O47: the report at the placer, carried through what the event adds by `gateFrame_blockEvent`. -/
theorem deadlineExpiryReportsATimeout : Obligations.DeadlineExpiryReportsATimeout := by
  unfold Obligations.DeadlineExpiryReportsATimeout
  intro d k s
  have run : exec (.deadlineExpiry k) s = .next (blockEvent (expire k) s) := rfl
  rw [run]
  constructor
  · intro early
    have time : s.overdue k = false := by
      rw [Bool.eq_false_iff, ne_eq, overdue_iff]
      rintro ⟨e, he, hk, hd⟩
      have := early e he hk
      omega
    rw [blockEvent_of_eq (expire_of_not_overdue time)]
  · intro e he hk hd
    have report := expire_of_overdue ((overdue_iff s k).mpr ⟨e, he, hk, hd⟩)
    have after := gateFrame_blockEvent (expire k) s
    rw [report] at after
    refine ⟨_, rfl, blockEvent_frame (expire_frame k) s, ?_, ?_, ?_, ?_⟩
    · rw [after.cft, reportFailed_cft]
      rfl
    · rintro rfl closing withdraw
      obtain ⟨record, faults, timeouts⟩ := doorLock_timeout (s := s) (d := d) (by simp [DoorRec.withdrawn, closing, withdraw])
      obtain ⟨door, counters⟩ := after.doors d (by simp [record])
      exact ⟨door.trans record, by rw [counters]; exact faults, by rw [after.cftCtr]; exact timeouts⟩
    · rintro rfl applying
      obtain ⟨bdu, line, faults, timeouts⟩ := stopApply_timeout applying
      exact ⟨after.bdu.trans bdu, after.stopHold.trans line, by rw [after.bduCtr]; exact faults,
        by rw [after.cftCtr]; exact timeouts⟩
    · rintro rfl releasing
      obtain ⟨bdu, line, drags, timeouts⟩ := stopRelease_timeout releasing
      exact ⟨after.bdu.trans bdu, after.stopHold.trans line, by rw [after.bduCtr]; exact drags,
        by rw [after.cftCtr]; exact timeouts⟩

/-! ### The level, port and gap timers (R83, R97, R98, R146, R172) -/

/-- With no door PREPARING there is no release gate to evaluate (R113). -/
theorem evalGates_of_none_preparing {s : State} (h : ∀ d, (s.door d).state ≠ .preparing) : evalGates s = s := by
  have gate (d : Door) : evalGate d s = s := if_neg fun hd => h d hd.1
  simp only [evalGates, allDoors, List.foldl_cons, List.foldl_nil, gate]

/-- In RIDE and in KNELT no completion condition is evaluated, and without a pending kneel no gate (R94, R96). -/
theorem cornersChanged_of_settled {before s : State} (hk : s.rhc.kneel = .ride ∨ s.rhc.kneel = .knelt)
    (hp : s.rhc.pending ≠ .kneel) : cornersChanged before s = s := by
  have lowering : s.rhc.kneel ≠ .lowering := by rcases hk with h | h <;> simp [h]
  have raising : s.rhc.kneel ≠ .raising := by rcases hk with h | h <;> simp [h]
  have complete : checkComplete s = s := by simp [checkComplete, checkRaised, lowering, raising]
  have gate : evalKneelGate s = s := if_neg fun h => hp h.1
  rcases cornersChanged_cases before s with ⟨-, e⟩ | ⟨-, e⟩
  · rw [e, gate]
  · rw [e, complete, gate]

theorem wakeExpired_of_ended {k : Corner} {s : State} (he : (s.corner k).wake.ended s.now = true)
    (hw : (s.corner k).state = .wake) (hk : s.rhc.kneel = .ride ∨ s.rhc.kneel = .knelt) (hp : s.rhc.pending ≠ .kneel) :
    wakeExpired k s = s.putCorner k { s.corner k with state := .active, quiet := 0, wake := .stopped } := by
  simp only [wakeExpired, he, hw, if_true]
  exact cornersChanged_of_settled hk hp

/-- The state after a kneel timer has run out in LOWERING with no door PREPARING (R96, R97). -/
theorem kneelTimerExpired_of_ended {s : State} (he : s.rhc.kneelTimer.ended s.now = true) (hk : s.rhc.kneel = .lowering)
    (hd : ∀ d, (s.door d).state ≠ .preparing) :
    kneelTimerExpired s = (s.setRhc { s.rhc with
      kneel := .knelt, kneelTimer := .stopped, incomplete := true
      corners := PerCorner.ofFn fun j =>
        let r := s.corner j
        if r.state ≠ .active then r
        else if s.rhc.freeze = true then { r with state := .frozen, wake := .stopped, quiet := 0, pulse := none }
        else { r with quiet := 0 } }).countRhc fun c => { c with incompleteKneels := bump c.incompleteKneels } := by
  simp only [kneelTimerExpired, he, hk, if_true]
  unfold enterKnelt
  rw [evalGates_of_none_preparing (by exact hd)]
  simp only [ne_eq, ite_not]
  rfl

theorem raiseTimerExpired_of_ended {s : State} (he : s.rhc.raiseTimer.ended s.now = true) (hk : s.rhc.kneel = .raising) :
    raiseTimerExpired s = (s.setRhc { s.rhc with raiseTimer := .stopped, fault := true }).countRhc fun c =>
      { c with kneelFaults := bump c.kneelFaults } := by
  simp only [raiseTimerExpired, he, hk, if_true]
  rfl

/-- Settles O48: each handling leaves the door actions and the queue alone, so it is all that the event does. -/
theorem levelPortAndGapTimersActInTheirStates : Obligations.LevelPortAndGapTimersActInTheirStates := by
  unfold Obligations.LevelPortAndGapTimersActInTheirStates
  intro k p s
  have alone {g : State → State} {t : State} (h : g s = t) (hd : t.dic = s.dic) (hc : t.cft = s.cft) :
      (.next (blockEvent g s) : Outcome) = .next t := by
    subst h
    rw [blockEvent_of_quiet (by simp only [State.doorActions, hd]) hc]
  refine ⟨fun he => ?_, fun he hw hk hp => ?_, fun he => ?_, fun he hk hd => ?_, fun he => ?_, fun he hk => ?_, rfl, ?_⟩
  · exact alone (g := wakeExpired k) (by simp [wakeExpired, he]) rfl rfl
  · exact alone (wakeExpired_of_ended he hw hk hp) rfl rfl
  · exact alone (g := kneelTimerExpired) (by simp [kneelTimerExpired, he]) rfl rfl
  · exact alone (kneelTimerExpired_of_ended he hk hd) rfl rfl
  · exact alone (g := raiseTimerExpired) (by simp [raiseTimerExpired, he]) rfl rfl
  · exact alone (raiseTimerExpired_of_ended he hk) rfl rfl
  · rfl

/-! ### Placements and the doors (R132 to R134) -/

theorem doorsKept_reportSource {P : DoorRec → Prop} (k : Source) (b : Bool) (s : State) :
    DoorsKept P s (reportSource k b s) := by
  obtain ⟨x, hx⟩ := reportSource_ctr k b s
  exact .of_eq (by simp) (by rw [hx])

theorem doorsKept_setStopBrake {P : DoorRec → Prop} (b : StopBrake) (s : State) : DoorsKept P s (setStopBrake b s) :=
  .of_eq (by simp) (setStopBrake_ctr_dic b s)

theorem doorsKept_setBdu {P : DoorRec → Prop} (s : State) (x : Bdu) : DoorsKept P s (s.setBdu x) := .of_eq rfl rfl

theorem doorsKept_countBdu {P : DoorRec → Prop} (s : State) (g : BduCtr → BduCtr) : DoorsKept P s (s.countBdu g) :=
  .of_eq rfl rfl

theorem doorsKept_countRhc {P : DoorRec → Prop} (s : State) (g : RhcCtr → RhcCtr) : DoorsKept P s (s.countRhc g) :=
  .of_eq rfl rfl

theorem doorsKept_stopBrakeFailed {P : DoorRec → Prop} (k : ExpKey) (s : State) : DoorsKept P s (stopBrakeFailed k s) := by
  unfold stopBrakeFailed
  split
  · exact (doorsKept_setStopBrake .fault s).trans (doorsKept_countBdu _ _)
  · exact ((doorsKept_setStopBrake .released s).trans (doorsKept_setBdu _ _)).trans (doorsKept_countBdu _ _)
  · exact .refl s

/-- A failed expectation changes the door of its DOOR_LOCK alone, and that only after its withdrawal (R119, R122). -/
theorem doorKept_reportFailed {k : ExpKey} {d : Door} {s : State} (h : k ≠ .doorLock d ∨ (s.door d).withdrawn = false) :
    DoorKept d s (reportFailed k s) := by
  cases k with
  | doorLock j =>
    dsimp only [reportFailed, doorLockFailed]
    split
    · next hw =>
      have ne : d ≠ j := by
        rintro rfl
        rcases h with h | h
        · exact h rfl
        · simp [h] at hw
      simp [DoorKept, State.countDoor, State.setCtr, State.door, State.putDoor, State.setDic, ne]
    · exact ⟨rfl, rfl⟩
  | stopApply | stopRelease => exact doorsKept_stopBrakeFailed (P := fun _ => True) _ s d trivial

theorem gateFrame_supersedeStep (k : ExpKey) (s : State) : GateFrame (supersede k s) (supersedeStep k s) :=
  .ite (gateFrame_almostFullEnded _) (.refl _)

theorem doorsKept_supersede {P : DoorRec → Prop} (k : ExpKey) (s : State) : DoorsKept P s (supersede k s) :=
  .ite (.of_eq rfl rfl) (.refl s)

theorem doorsKept_evictHead {P : DoorRec → Prop} (s : State) : DoorsKept P s (evictHead s) := by
  unfold evictHead
  split
  · exact .of_eq rfl rfl
  · exact .refl s

theorem doorsKept_appendEntry {P : DoorRec → Prop} (k : ExpKey) (ms : Nat) (s : State) : DoorsKept P s (appendEntry k ms s) :=
  .of_eq rfl rfl

/-- A placement reports an eviction, where it makes one, in a state with the doors as its supersession step left them (R134). -/
theorem place_cases (k : ExpKey) (ms : Nat) (s : State) :
    ∃ t, (∀ P, DoorsKept P (supersedeStep k s) t) ∧
      (((supersedeStep k s).evictee = none ∧ place k ms s = t) ∨
        ∃ v, (supersedeStep k s).evictee = some v ∧ place k ms s = reportFailed v t) := by
  refine ⟨appendEntry k ms (evictHead (supersedeStep k s)), fun P => (doorsKept_evictHead _).trans (doorsKept_appendEntry k ms _), ?_⟩
  unfold place
  cases h : (supersedeStep k s).evictee with
  | none => exact .inl ⟨rfl, by simp only [h]⟩
  | some v => exact .inr ⟨v, rfl, by simp only [h]⟩

/-- A placement leaves a door alone that is not PREPARING, unless the entry that it evicts is that door's DOOR_LOCK after the
withdrawal. -/
theorem doorKept_place {k : ExpKey} {d : Door} {s : State} (ms : Nat) (hp : (s.door d).state ≠ .preparing)
    (hv : (supersedeStep k s).evictee ≠ some (.doorLock d) ∨ (s.door d).withdrawn = false) : DoorKept d s (place k ms s) := by
  have superseded : DoorKept d s (supersedeStep k s) :=
    ((doorsKept_supersede k s).trans (gateFrame_supersedeStep k s).doors) d hp
  obtain ⟨t, kept, ⟨-, e⟩ | ⟨v, evicted, e⟩⟩ := place_cases k ms s <;> rw [e]
  · exact superseded.trans (kept (fun _ => True) d trivial)
  · have appended := superseded.trans (kept (fun _ => True) d trivial)
    refine appended.trans (doorKept_reportFailed ?_)
    rw [appended.1]
    refine hv.imp (fun h e => ?_) id
    subst e
    exact h evicted

/-- The supersession step leaves the queue without the older entry (R133). -/
theorem supersedeStep_cft (k : ExpKey) (s : State) : (supersedeStep k s).cft = dropKey k s.cft := by
  rw [(gateFrame_supersedeStep k s).cft]
  unfold supersede
  split
  · rfl
  · next h => exact (filter_of_not_any _ _ (by simpa [State.expects] using h)).symm

/-- A placement never evicts an entry of its own kind and unit. -/
theorem evictee_ne (k : ExpKey) (s : State) : (supersedeStep k s).evictee ≠ some k := by
  unfold State.evictee
  split
  · rw [supersedeStep_cft]
    intro h
    obtain ⟨e, he, hk⟩ := Option.map_eq_some_iff.mp h
    have := (List.mem_filter.mp (List.mem_of_mem_head? he)).2
    simp [hk] at this
  · simp

/-- Into a queue of fewer than three entries a placement changes no door: it evicts nothing, and no almost-full condition ends. -/
theorem doorsKept_place {s : State} (h : s.cft.length < 3) (k : ExpKey) (ms : Nat) (P : DoorRec → Prop) :
    DoorsKept P s (place k ms s) := by
  have notFull : s.almostFull = false := decide_eq_false (Nat.not_le.mpr h)
  have step : supersedeStep k s = supersede k s := by simp [supersedeStep, notFull]
  have none : (supersedeStep k s).evictee = none := by
    have shorter : (dropKey k s.cft).length ≤ s.cft.length := List.length_filter_le ..
    refine if_neg ?_
    rw [supersedeStep_cft, Config.expectationDepth]
    omega
  obtain ⟨t, kept, ⟨-, e⟩ | ⟨v, evicted, e⟩⟩ := place_cases k ms s
  · rw [e]
    exact (doorsKept_supersede k s).trans (step ▸ kept P)
  · rw [none] at evicted
    cases evicted

/-- A placement puts its entry at the tail (R132). -/
theorem place_getLast (k : ExpKey) (ms : Nat) (s : State) : (place k ms s).cft.getLast? = some ⟨k, s.now + ms⟩ := by
  have now : (evictHead (supersedeStep k s)).now = s.now :=
    ((supersedeStep_frame k s).trans (evictHead_frame _)).now
  have appended : (place k ms s).cft = (evictHead (supersedeStep k s)).cft ++ [⟨k, s.now + ms⟩] := by
    rw [← now]
    unfold place
    dsimp only
    split
    · rw [reportFailed_cft]; rfl
    · rfl
  rw [appended, List.getLast?_concat]

/-! ### The brake unit and the kneel sequence, at a door that waits for nothing -/

/-- A door that neither waits for its release gate nor for its DOOR_LOCK. -/
def Settled (r : DoorRec) : Prop := r.state ≠ .preparing ∧ r.withdrawn = false

theorem GateFrame.settled {s t : State} (h : GateFrame s t) : DoorsKept Settled s t := h.doors.mono fun _ hr => hr.1

theorem settled_place (k : ExpKey) (ms : Nat) (s : State) : DoorsKept Settled s (place k ms s) :=
  fun _ hr => doorKept_place ms hr.1 (.inr hr.2)

theorem settled_cancel (k : ExpKey) (s : State) : DoorsKept Settled s (cancel k s) := .ite (.of_eq rfl rfl) (.of_eq rfl rfl)

theorem settled_urgentBac (s : State) : DoorsKept Settled s (urgentBac s) := by
  obtain ⟨y, z, h⟩ := urgentRequest_ctr .bac s.bacFields s
  exact .of_eq (by simp [urgentBac]) (by rw [urgentBac, h])

theorem settled_enterApplying (s : State) : DoorsKept Settled s (enterApplying s) := by
  unfold enterApplying
  exact ((((doorsKept_setStopBrake .applying s).trans (doorsKept_setBdu _ _)).trans (settled_place _ _ _)).trans
    (settled_urgentBac _)).trans (doorsKept_countBdu _ _)

theorem settled_enterReleasing (s : State) : DoorsKept Settled s (enterReleasing s) :=
  (doorsKept_setStopBrake .releasing s).trans (settled_place .stopRelease _ _)

theorem settled_firstRequester (s : State) : DoorsKept Settled s (firstRequester s) := by
  unfold firstRequester
  split
  · exact .ite (settled_enterApplying s) (doorsKept_setStopBrake _ s)
  · exact (settled_cancel _ s).trans (settled_enterApplying _)
  · exact .refl s

theorem settled_lastRequester (s : State) : DoorsKept Settled s (lastRequester s) := by
  unfold lastRequester
  split
  · exact doorsKept_setStopBrake _ s
  · exact (settled_cancel _ s).trans (settled_enterReleasing _)
  · exact settled_enterReleasing s
  · exact settled_enterReleasing s
  · exact .refl s

theorem settled_putReq (k : Requester) (b : Bool) (s : State) : DoorsKept Settled s (putReq k b s) := .of_eq rfl rfl

theorem settled_addReq (k : Requester) (s : State) : DoorsKept Settled s (addReq k s) :=
  .ite (.refl s) (.ite ((settled_putReq k true s).trans (settled_firstRequester _)) (settled_putReq k true s))

theorem settled_removeReq (k : Requester) (s : State) : DoorsKept Settled s (removeReq k s) :=
  .ite (.ite ((settled_putReq k false s).trans (settled_lastRequester _)) (settled_putReq k false s)) (.refl s)

theorem settled_request (k : Requester) (b : Bool) (s : State) : DoorsKept Settled s (request k b s) :=
  .ite (settled_addReq k s) (settled_removeReq k s)

theorem settled_cancelKneel (s : State) : DoorsKept Settled s (cancelKneel s) := by
  have dropped := gateFrame_setRhc s { s.rhc with pending := .none, origin := .none }
  exact .ite ((dropped.settled.trans (settled_removeReq .kneel _)).trans (doorsKept_countRhc _ _)) (.refl s)

theorem settled_enterRide (s : State) : DoorsKept Settled s (enterRide s) := by
  have rode := (gateFrame_setRhc s { s.rhc with kneel := .ride, raiseTimer := .stopped, origin := .none }).trans
    (gateFrame_setRhc _ (settleCorners (s.setRhc { s.rhc with kneel := .ride, raiseTimer := .stopped, origin := .none })).rhc)
  have reported := (rode.trans (gateFrame_setHold .kneel false _)).trans (gateFrame_reportSource .kneel false _)
  have weighed (t : State) : DoorsKept Settled t (formWeights t) := .ite (.refl t) (.of_eq rfl rfl)
  exact ((reported.settled.trans (weighed _)).trans (settled_removeReq .kneel _)).trans (gateFrame_evalGates _).settled

theorem settled_checkRaised (s : State) : DoorsKept Settled s (checkRaised s) :=
  .ite ((gateFrame_markIncomplete s).settled.trans (settled_enterRide _)) (.refl s)

theorem settled_enterRaising (s : State) : DoorsKept Settled s (enterRaising s) := by
  unfold enterRaising
  have forced := ((gateFrame_setRhc s { s.rhc with kneel := .raising, pending := .none, kneelTimer := .stopped }).trans
    (gateFrame_setLevel .ride _)).trans (gateFrame_forceActive _)
  have reported (t : State) : GateFrame t (evalGates (reportSource .kneel true (setHold .kneel true t))) :=
    ((gateFrame_setHold .kneel true t).trans (gateFrame_reportSource .kneel true _)).trans (gateFrame_evalGates _)
  have told {t : State} (h : GateFrame s t) := (h.trans (reported t)).settled
  refine .ite (DoorsKept.trans ?_ (settled_checkRaised _)) ?_ <;>
    exact told (.ite (forced.trans (gateFrame_setRhc _ _)) forced)

theorem settled_allDoorsLocked (s : State) : DoorsKept Settled s (allDoorsLocked s) := by
  unfold allDoorsLocked
  split
  · exact .ite (settled_cancelKneel s) (.refl s)
  · exact .ite (settled_enterRaising s) (.refl s)
  · exact .ite (settled_enterRaising s) (.refl s)
  · exact .refl s

/-! ### Changes of a door's state (R109) -/

/-- The reports of a change of a door leave every door alone that waits for nothing. -/
theorem settled_changeDoor (d : Door) (r : DoorRec) (s : State) : DoorsKept Settled (s.putDoor d r) (changeDoor d r s) := by
  have asked : DoorsKept Settled (s.putDoor d r) (if s.someUnlocked = (s.putDoor d r).someUnlocked then s.putDoor d r
      else request .doors (s.putDoor d r).someUnlocked (s.putDoor d r)) := .ite (.refl _) (settled_request _ _ _)
  have held := asked.trans (gateFrame_setHold .door (s.putDoor d r).someRearUnlocked _).settled
  have locked := DoorsKept.ite (c := (s.someUnlocked && !(s.putDoor d r).someUnlocked) = true)
    (held.trans (settled_allDoorsLocked _)) held
  have reported := (locked.trans (doorsKept_reportSource .doorOpen (s.putDoor d r).someUnlocked _)).trans
    (doorsKept_reportSource .emergency (s.putDoor d r).someEmergency _)
  exact .ite reported (reported.trans (settled_request .emergency _ _))

theorem someUnlocked_iff (s : State) : s.someUnlocked = true ↔ ∃ d, (s.door d).state ≠ .locked := by
  simp [State.someUnlocked, PerDoor.any_iff, State.door]

/-- While some door is not LOCKED before and after a change, and the change neither enters nor leaves EMERGENCY, its reports go to
the steering engine and the combiner alone. -/
theorem changeDoor_of_unlocked {d : Door} {r : DoorRec} {s : State} (h : s.someUnlocked = true)
    (h' : (s.putDoor d r).someUnlocked = true) (he : (s.door d).state ≠ .emergency) (he' : r.state ≠ .emergency) :
    changeDoor d r s = reportSource .emergency (s.putDoor d r).someEmergency (reportSource .doorOpen true
      (setHold .door (s.putDoor d r).someRearUnlocked (s.putDoor d r))) := by
  have out : ((s.door d).state == .emergency) = false := by simpa using he
  have out' : (r.state == .emergency) = false := by simpa using he'
  simp only [changeDoor, h, h', out, out', if_true, Bool.not_true, Bool.and_false, Bool.false_eq_true, if_false]

/-- Such a change leaves every other door and the queue alone. -/
theorem changeDoor_of_unlocked_keeps {d : Door} {r : DoorRec} {s : State} (h : s.someUnlocked = true)
    (h' : (s.putDoor d r).someUnlocked = true) (he : (s.door d).state ≠ .emergency) (he' : r.state ≠ .emergency) :
    (changeDoor d r s).cft = s.cft ∧ ∀ P, DoorsKept P (s.putDoor d r) (changeDoor d r s) := by
  rw [changeDoor_of_unlocked h h' he he']
  refine ⟨by simp, fun P => ?_⟩
  have held : DoorsKept P (s.putDoor d r) (setHold .door (s.putDoor d r).someRearUnlocked (s.putDoor d r)) := .of_eq rfl rfl
  exact (held.trans (doorsKept_reportSource _ _ _)).trans (doorsKept_reportSource _ _ _)

theorem settled_lock (r : DoorRec) : Settled r.lock := ⟨by simp [DoorRec.lock], by simp [DoorRec.withdrawn, DoorRec.lock]⟩

/-- A door that locks takes the record of a LOCKED door with its counters kept (R114). -/
theorem doorKept_lockDoor (d : Door) (s : State) : DoorKept d (s.putDoor d (s.door d).lock) (lockDoor d s) :=
  settled_changeDoor d _ s d (by simpa using settled_lock (s.door d))

/-- A door that locks from outside EMERGENCY leaves every other door alone: the brake unit and the kneel sequence hear of it only
when every door is LOCKED. -/
theorem lockDoor_others {d e : Door} {s : State} (hl : (s.door d).state ≠ .locked) (hm : (s.door d).state ≠ .emergency)
    (ne : e ≠ d) : (lockDoor d s).door e = s.door e := by
  have same : (s.putDoor d (s.door d).lock).door e = s.door e := by simp [ne]
  by_cases he : (s.door e).state = .locked
  · have waits : Settled ((s.putDoor d (s.door d).lock).door e) := by
      rw [same]
      exact ⟨by simp [he], by simp [DoorRec.withdrawn, he]⟩
    exact (settled_changeDoor d _ s e waits).1.trans same
  · have before := (someUnlocked_iff s).mpr ⟨d, hl⟩
    have after := (someUnlocked_iff (s.putDoor d (s.door d).lock)).mpr ⟨e, by rwa [same]⟩
    have kept := (changeDoor_of_unlocked_keeps before after hm (by simp [DoorRec.lock])).2 (fun _ => True)
    exact (kept e trivial).1.trans same

/-! ### The door timers (R114, R117, R118) -/

theorem prepExpired_of_ended {d : Door} {s : State} (he : (s.door d).prep.ended s.now = true)
    (hs : (s.door d).state = .preparing) :
    prepExpired d s = (lockDoor d s).countDoor d fun k => { k with prepTimeouts := bump k.prepTimeouts } := by
  simp only [prepExpired, he, hs, if_true]

theorem dwellExpired_of_ended {d : Door} {s : State} (he : (s.door d).dwell.ended s.now = true)
    (hs : (s.door d).state = .opened) : dwellExpired d s = closeWarned d (s.putDoor d { s.door d with dwell := .expired }) := by
  simp only [dwellExpired, he, hs, if_true]

theorem warnExpired_of_ended {d : Door} {s : State} (he : (s.door d).warn.ended s.now = true)
    (hs : (s.door d).state = .closing) : warnExpired d s = withdraw d s := by
  simp only [warnExpired, he, hs, if_true]

/-- The withdrawal sets the door's action and stops its warn timer (R118); the eviction its placement may make is never its own. -/
theorem withdraw_door {d : Door} {s : State} (h : (s.door d).state ≠ .preparing) :
    (withdraw d s).door d = { s.door d with action := .withdraw, warn := .stopped } := by
  have placed := doorKept_place (k := .doorLock d) (d := d) (s := s.putDoor d { s.door d with action := .withdraw, warn := .stopped })
    (s.parN .lockTimeout) (by simpa using h) (.inl (evictee_ne _ _))
  exact placed.1.trans (by simp)

theorem withdraw_others {d e : Door} {s : State} (h : s.cft.length < 3) (ne : e ≠ d) : (withdraw d s).door e = s.door e := by
  have placed := doorsKept_place (s := s.putDoor d { s.door d with action := .withdraw, warn := .stopped }) h (.doorLock d)
    (s.parN .lockTimeout) (fun _ => True) e trivial
  exact placed.1.trans (by simp [ne])

/-- The state of an OPEN door's entry to CLOSING, before the withdrawal that warn_ms at 0 makes (R118). -/
def warned (d : Door) (s : State) : State :=
  changeDoor d { s.door d with state := .closing, action := .warn, warn := s.timer (s.parN .warnMs) } s

theorem closeWarned_eq (d : Door) (s : State) :
    closeWarned d s = if s.parN .warnMs = 0 then withdraw d (warned d s) else warned d s := rfl

/-- The door of an OPEN door's entry to CLOSING has the warning; no other door changes, nor the queue. -/
theorem warned_keeps {d : Door} {s : State} (h : (s.door d).state = .opened) :
    (warned d s).cft = s.cft ∧
      (warned d s).door d = { s.door d with state := .closing, action := .warn, warn := s.timer (s.parN .warnMs) } ∧
      ∀ e, e ≠ d → (warned d s).door e = s.door e := by
  have before := (someUnlocked_iff s).mpr ⟨d, by simp [h]⟩
  have after := (someUnlocked_iff (s.putDoor d
    { s.door d with state := .closing, action := .warn, warn := s.timer (s.parN .warnMs) })).mpr ⟨d, by simp⟩
  obtain ⟨cft, kept⟩ := changeDoor_of_unlocked_keeps before after (by simp [h]) (by simp)
  have doors (e : Door) := (kept (fun _ => True) e trivial).1
  exact ⟨cft, (doors d).trans (by simp), fun e ne => (doors e).trans (by simp [ne])⟩

theorem prep_expiry {d : Door} {s : State} (he : (s.door d).prep.ended s.now = true) (hs : (s.door d).state = .preparing) :
    let t := blockEvent (prepExpired d) s
    t.door d = (s.door d).lock ∧ (t.ctr.dic.get d).prepTimeouts = bump (s.ctr.dic.get d).prepTimeouts ∧
      (s.cft.length < 3 → ∀ e, e ≠ d → t.door e = s.door e) := by
  have after := (gateFrame_blockEvent (prepExpired d) s).doors d
  rw [prepExpired_of_ended he hs] at after
  obtain ⟨door, counters⟩ := doorKept_lockDoor d s
  have record : (lockDoor d s).door d = (s.door d).lock := door.trans (by simp)
  obtain ⟨door', counters'⟩ := after (by
    have e : ((lockDoor d s).countDoor d fun k => { k with prepTimeouts := bump k.prepTimeouts }).door d = (s.door d).lock := record
    rw [e]
    exact (settled_lock _).1)
  refine ⟨door'.trans record, ?_, fun few e ne => ?_⟩
  · rw [counters']
    simp only [State.countDoor, State.setCtr, PerDoor.get_set, if_true, counters]
    rfl
  · have tail := (doorsKept_blockEvent (g := prepExpired d) few (fun _ => True) e trivial).1
    rw [prepExpired_of_ended he hs] at tail
    exact tail.trans (lockDoor_others (by simp [hs]) (by simp [hs]) ne)

theorem dwell_expiry {d : Door} {s : State} (he : (s.door d).dwell.ended s.now = true) (hs : (s.door d).state = .opened) :
    let t := blockEvent (dwellExpired d) s
    t.door d = (if s.parN .warnMs = 0 then
        { s.door d with state := .closing, action := .withdraw, warn := .stopped, dwell := .expired }
      else { s.door d with state := .closing, action := .warn, warn := .running (s.now + s.parN .warnMs), dwell := .expired }) ∧
      (s.parN .warnMs ≠ 0 → t.cft = s.cft) ∧ (s.cft.length < 3 → ∀ e, e ≠ d → t.door e = s.door e) := by
  have frame := gateFrame_blockEvent (dwellExpired d) s
  have tail := fun few => doorsKept_blockEvent (g := dwellExpired d) (s := s) few (fun _ => True)
  rw [dwellExpired_of_ended he hs, closeWarned_eq] at frame tail
  obtain ⟨cft, door, others⟩ := warned_keeps (d := d) (s := s.putDoor d { s.door d with dwell := .expired }) (by simp [hs])
  have warn : (s.putDoor d { s.door d with dwell := .expired }).parN .warnMs = s.parN .warnMs := rfl
  have rest (e : Door) (ne : e ≠ d) : (s.putDoor d { s.door d with dwell := .expired }).door e = s.door e := by simp [ne]
  rw [warn] at frame tail
  by_cases h0 : s.parN .warnMs = 0
  · simp only [h0, if_true] at frame tail ⊢
    have closed := withdraw_door (d := d) (s := warned d (s.putDoor d { s.door d with dwell := .expired })) (by simp [door])
    refine ⟨?_, fun h => absurd rfl h, fun few e ne => ?_⟩
    · refine (frame.doors d (by simp [closed, door])).1.trans (closed.trans ?_)
      rw [door]
      simp
    · refine (tail few e trivial).1.trans ((withdraw_others ?_ ne).trans ((others e ne).trans (rest e ne)))
      rw [cft]
      exact few
  · simp only [h0, if_false] at frame tail ⊢
    refine ⟨?_, fun _ => frame.cft.trans cft, fun few e ne => (tail few e trivial).1.trans ((others e ne).trans (rest e ne))⟩
    refine (frame.doors d (by simp [door])).1.trans (door.trans ?_)
    simp [State.timer, warn]

theorem warn_expiry {d : Door} {s : State} (he : (s.door d).warn.ended s.now = true) (hs : (s.door d).state = .closing) :
    let t := blockEvent (warnExpired d) s
    t.door d = { s.door d with action := .withdraw, warn := .stopped } ∧
      t.cft.getLast? = some ⟨.doorLock d, s.now + s.parN .lockTimeout⟩ ∧
      (s.cft.length < 3 → ∀ e, e ≠ d → t.door e = s.door e) := by
  have frame := gateFrame_blockEvent (warnExpired d) s
  have tail := fun few => doorsKept_blockEvent (g := warnExpired d) (s := s) few (fun _ => True)
  rw [warnExpired_of_ended he hs] at frame tail
  have withdrawn := withdraw_door (d := d) (s := s) (by simp [hs])
  refine ⟨(frame.doors d (by simp [withdrawn, hs])).1.trans withdrawn, ?_, fun few e ne => ?_⟩
  · rw [frame.cft]
    exact place_getLast ..
  · exact (tail few e trivial).1.trans (withdraw_others few ne)

/-- Settles O49: the handling of each expiry at its door, and what the event adds to it. -/
theorem doorTimersActInTheirStates : Obligations.DoorTimersActInTheirStates := by
  unfold Obligations.DoorTimersActInTheirStates
  intro d s
  refine ⟨fun he => ?_, fun he hs => ⟨_, rfl, blockEvent_frame (prepExpired_frame d) s, prep_expiry he hs⟩, fun he => ?_,
    fun he hs => ?_, fun he hs => ⟨_, rfl, blockEvent_frame (dwellExpired_frame d) s, dwell_expiry he hs⟩, fun he => ?_,
    fun he hs => ⟨_, rfl, blockEvent_frame (warnExpired_frame d) s, warn_expiry he hs⟩⟩
  · exact congrArg Host.Outcome.next (blockEvent_of_eq (g := prepExpired d) (by simp [prepExpired, he]))
  · exact congrArg Host.Outcome.next (blockEvent_of_eq (g := dwellExpired d) (by simp [dwellExpired, he]))
  · have marked : dwellExpired d s = s.putDoor d { s.door d with dwell := .expired } := by simp [dwellExpired, he, hs]
    refine congrArg Host.Outcome.next ((blockEvent_of_quiet ?_ ?_).trans marked) <;> rw [marked]
    · cases d <;> rfl
    · rfl
  · exact congrArg Host.Outcome.next (blockEvent_of_eq (g := warnExpired d) (by simp [warnExpired, he]))

end Sys2Proof.Proofs
end
